-- ==== Sys2Proof/Word.lean ====
section
/-!
DEFINITION. The words of the WZC64: bytes, card identifiers and the sets the manual lays out as bits.
-/
namespace Sys2Proof

/-- One byte of a frame or of a record (R10, R180). -/
abbrev Byte := BitVec 8

/-- A card identifier: a 56-bit unsigned value (chapter 0, "Card identifiers"). -/
abbrev CardId := BitVec 56

/-- A set of stations, station `t` in bit `t` (R185). -/
abbrev StationSet := BitVec 16

/-- A set of containers, container `c` in bit `c` (R185). -/
abbrev ContainerSet := BitVec 64

/-- A set of fractions in the layout of the card record (section 4.1). -/
abbrev FractionSet := BitVec 5

/-- An interval timer: stopped, or running with a remaining time in seconds (section 1.2). -/
abbrev Timer := Option Nat

end Sys2Proof
end

