-- ==== Sys2Proof/Config.lean ====
section
/-!
DEFINITION. What the WZC64 fixes once: its capacities and fixed times, and the reply codes whose values the manual
never states (they are opaque: no proof can see their values).
-/
namespace Sys2Proof

namespace Config

/-- R65: the directory holds at most 8192 records. -/
def maxCards : Nat := 8192
/-- R84: the watch list holds at most 16 entries. -/
def maxWatch : Nat := 16
/-- R90: the presentation queue holds at most 8 presentations. -/
def maxWaiting : Nat := 8
/-- R176: the report queue holds at most 64 records. -/
def maxEvents : Nat := 64
/-- R21: the lamp hold, in seconds. -/
def lampHold : Nat := 3
/-- R34: the echo timeout, in seconds. -/
def echoTimeout : Nat := 2
/-- R138: the lifted timer, in seconds. -/
def liftedTime : Nat := 900
/-- R141: the attempt timer, in seconds. -/
def attemptTime : Nat := 20
/-- R194: the inactivity timer of a granted service port, in seconds. -/
def inactivityTime : Nat := 600
/-- R184: the data bytes one reply frame carries at most. -/
def maxData : Nat := 236

end Config

/-- The items of reply data that the manual names in words and gives no byte value for. -/
inductive ReplyCode where
  /-- STATION_READ: the online state ONLINE (R4). -/
  | online
  /-- STATION_READ: the online state OFFLINE (R4). -/
  | offline
  /-- STATUS and LIST_READ: the round state closed (R122, R187). -/
  | roundClosed
  /-- STATUS and LIST_READ: the round state open (R122, R187). -/
  | roundOpen
  /-- INTEGRITY_MASK: the station status SUSPENDED (R154). -/
  | suspended
  /-- INTEGRITY_MASK: the station status UNARMED (R154). -/
  | unarmed
  /-- INTEGRITY_MASK: the station status ARMED (R154). -/
  | armed
  /-- MEASURE_NOW: the request was folded (R32). -/
  | measureFolded
  /-- MEASURE_NOW: the request was newly passed to the scanner (R32). -/
  | measurePassed
  /-- LIST_ADD: the request inserted the entry (R120). -/
  | entryInserted
  /-- LIST_ADD: the request raised the entry's reason (R120). -/
  | entryRaised
  /-- LIST_ADD: the request left the entry as it was (R120). -/
  | entryLeft
  /-- SET_MODE refused BUSY: a hatch is away from LOCKED (R191). -/
  | busyHatch
  /-- SET_MODE refused BUSY: an emptying operation exists (R191). -/
  | busyOperation
  /-- SET_MODE refused BUSY: a round is open (R191). -/
  | busyRound
  /-- SET_MODE refused BUSY: a directory edit is in flight (R191). -/
  | busyEdit
  deriving DecidableEq, Repr

/-- The byte that stands for such an item. A free value (DESIGN CHOICE, assumption 1, safe): the manual states none, so nothing in Lean
can evaluate it. -/
opaque Config.replyCode : ReplyCode → Byte

/-- The bytes 27 to 33 of a container status record (f, day and second of the last accepted sample) when the container has a running
estimator and no accepted sample. A free value (DESIGN CHOICE, assumption 24, safe): R49 states what d and q read then, and
nothing for these. -/
opaque Config.noSampleByte : Nat → Byte

end Sys2Proof
end

