-- ==== Sys2Proof/Syntax.lean ====
section
/-!
DEFINITION. The commands of the WZC64: one constructor for each row of spec/opcode_table.json. The WZC64 is a block: a command
is a frame completed on a port, an event on the station bus, the expiry of one of its timers, or a reset.
-/
namespace Sys2Proof

/-- The two ports (R180): the gateway link and the service port. -/
inductive Port where
  | gateway
  | service
  deriving DecidableEq, Repr

/-- The two actuators of a container: the hatch lock (contact HL) and the lift latch (contact LL). -/
inductive Actuator where
  | lock
  | latch
  deriving DecidableEq, Repr

/-- A complete request frame less its start byte, its length byte (which follows from the parameters) and its message kind
(which the constructor gives): the parameter bytes and the check byte as received (R180). -/
structure Frame where
  /-- The parameter bytes after the message kind, in line order (R185). -/
  params : List Byte
  /-- The check byte as received. -/
  check : Byte
  deriving DecidableEq, Repr

/-- The commands. A request constructor stands for the completion of one frame of that kind on a port; a container or a bound action is
named by its number. -/
inductive Instr where
  /-- COLD_START (R189). -/
  | coldStart
  /-- WARM_START (R188): RESETN low, or the end of a RESTART reply. -/
  | warmStart
  /-- CLOCK_TICK (R6): one second of the crystal. -/
  | clockTick
  /-- HOUR_BOUNDARY (R7): the hour-boundary notice. -/
  | hourBoundary
  /-- STATION_VISIT (R11): the scanner begins its next visit. -/
  | stationVisit
  /-- POLL_REPLY (R17): the bytes of a reply, from its start byte to its check byte. -/
  | pollReply (bytes : List Byte)
  /-- POLL_REPLY_INVALID (R15): the reply in progress has proved invalid or has ended invalid. -/
  | pollReplyInvalid
  /-- BUS_BYTE_GAP_TIMEOUT (R14): more than 5 ms between two bytes of the reply. -/
  | busByteGapTimeout
  /-- POLL_REPLY_TIMEOUT (R15): no start byte within 20 ms. -/
  | pollReplyTimeout
  /-- LAMP_HOLD_EXPIRY (R21) at container `c`. -/
  | lampHoldExpiry (c : Nat)
  /-- PERIODIC_TIMER_EXPIRY (R29) of container `c`. -/
  | periodicTimerExpiry (c : Nat)
  /-- POST_DEPOSIT_TIMER_EXPIRY (R30) of container `c`. -/
  | postDepositTimerExpiry (c : Nat)
  /-- ECHO_TIMEOUT (R34) of the measurement in flight of container `c`. -/
  | echoTimeout (c : Nat)
  /-- RELEASE_WINDOW_EXPIRY (R102) of container `c`. -/
  | releaseWindowExpiry (c : Nat)
  /-- DEPOSIT_TIMER_EXPIRY (R104) of container `c`. -/
  | depositTimerExpiry (c : Nat)
  /-- LIFT_WAIT_EXPIRY (R137) of the operation of container `c`. -/
  | liftWaitExpiry (c : Nat)
  /-- LIFTED_TIMER_EXPIRY (R138) of the operation of container `c`. -/
  | liftedTimerExpiry (c : Nat)
  /-- ATTEMPT_TIMER_EXPIRY (R141) of the operation of container `c`. -/
  | attemptTimerExpiry (c : Nat)
  /-- SETTLE_WINDOW_EXPIRY (R160) of an actuator's contact of container `c`. -/
  | settleWindowExpiry (c : Nat) (a : Actuator)
  /-- CONFIRMATION_WINDOW_EXPIRY (R168): the part for container `c` of the bound action that stands at `place` among those in flight. -/
  | confirmationWindowExpiry (place : Nat) (c : Nat)
  /-- CARD_PUT (R75). -/
  | cardPut (p : Port) (f : Frame)
  /-- CARD_PUT_RECORD_STEP (R76). -/
  | cardPutRecordStep
  /-- CARD_DELETE (R77). -/
  | cardDelete (p : Port) (f : Frame)
  /-- CARD_DELETE_RECORD_STEP (R77). -/
  | cardDeleteRecordStep
  /-- CARD_GET (R82). -/
  | cardGet (p : Port) (f : Frame)
  /-- CARD_NEXT (R83). -/
  | cardNext (p : Port) (f : Frame)
  /-- WATCH_SET (R85). -/
  | watchSet (p : Port) (f : Frame)
  /-- WATCH_CLEAR (R86). -/
  | watchClear (p : Port) (f : Frame)
  /-- WATCH_LIST (R86). -/
  | watchList (p : Port) (f : Frame)
  /-- FRACTION_RULES (R67). -/
  | fractionRules (p : Port) (f : Frame)
  /-- STATION_DEFINE (R2). -/
  | stationDefine (p : Port) (f : Frame)
  /-- STATION_READ (R4). -/
  | stationRead (p : Port) (f : Frame)
  /-- CONTAINER_SETUP (R24). -/
  | containerSetup (p : Port) (f : Frame)
  /-- CONTAINER_READ (R49). -/
  | containerRead (p : Port) (f : Frame)
  /-- MEASURE_NOW (R32). -/
  | measureNow (p : Port) (f : Frame)
  /-- SET_CLOCK (R9). -/
  | setClock (p : Port) (f : Frame)
  /-- FORCE_LOCK (R108). -/
  | forceLock (p : Port) (f : Frame)
  /-- FORCE_RELEASE (R109). -/
  | forceRelease (p : Port) (f : Frame)
  /-- FORCE_CANCEL (R111). -/
  | forceCancel (p : Port) (f : Frame)
  /-- LIST_ADD (R120). -/
  | listAdd (p : Port) (f : Frame)
  /-- LIST_REMOVE (R121). -/
  | listRemove (p : Port) (f : Frame)
  /-- LIST_READ (R122). -/
  | listRead (p : Port) (f : Frame)
  /-- ROUND_OPEN (R125). -/
  | roundOpen (p : Port) (f : Frame)
  /-- ROUND_CLOSE (R127). -/
  | roundClose (p : Port) (f : Frame)
  /-- LIFT_START (R131). -/
  | liftStart (p : Port) (f : Frame)
  /-- UNBLOCK (R163). -/
  | unblock (p : Port) (f : Frame)
  /-- INTEGRITY_MASK (R154). -/
  | integrityMask (p : Port) (f : Frame)
  /-- INPUT_SETUP (R164). -/
  | inputSetup (p : Port) (f : Frame)
  /-- EVENT_BINDING (R173). -/
  | eventBinding (p : Port) (f : Frame)
  /-- EVENTS_FETCH (R177). -/
  | eventsFetch (p : Port) (f : Frame)
  /-- FLAGS_CLEAR (R171). -/
  | flagsClear (p : Port) (f : Frame)
  /-- TUNING (R186). -/
  | tuning (p : Port) (f : Frame)
  /-- IDENT (R187). -/
  | ident (p : Port) (f : Frame)
  /-- STATUS (R187). -/
  | status (p : Port) (f : Frame)
  /-- RESTART (R188). -/
  | restart (p : Port) (f : Frame)
  /-- SET_MODE whose target is CONFIGURE (R191). -/
  | setModeConfigure (p : Port) (f : Frame)
  /-- SET_MODE whose target is OPERATE (R190, R191). -/
  | setModeOperate (p : Port) (f : Frame)
  /-- SET_MODE whose target is SUPERVISE (R190, R191). -/
  | setModeSupervise (p : Port) (f : Frame)
  /-- CONTINUE (R184). -/
  | continueSegment (p : Port) (f : Frame)
  /-- UNKNOWN_REQUEST_KIND (R182): a complete frame whose kind byte names no request. -/
  | unknownRequestKind (p : Port) (kind : Byte) (f : Frame)
  /-- BUSY_FRAME_DISCARD (R183): a frame that started while its port was busy has ended; `body` is what it held. -/
  | busyFrameDiscard (p : Port) (body : List Byte)
  /-- FRAME_LENGTH_INVALID (R181): the length byte `n` of a frame is 0 or above 240. -/
  | frameLengthInvalid (p : Port) (n : Byte)
  /-- FRAME_GAP_TIMEOUT (R181): more than 20 ms between two bytes of a frame. -/
  | frameGapTimeout (p : Port)
  /-- REPLY_SENT (R183): the last byte of the reply, or of its current segment, has been sent. -/
  | replySent (p : Port)
  /-- UNLOCK (R193). -/
  | unlock (p : Port) (f : Frame)
  /-- SERVICE_END (R194). -/
  | serviceEnd (p : Port) (f : Frame)
  /-- INACTIVITY_TIMER_EXPIRY (R194). -/
  | inactivityTimerExpiry
  /-- SERVICE_CLEAR (R195). -/
  | serviceClear (p : Port) (f : Frame)
  /-- SERVICE_CODE (R195). -/
  | serviceCode (p : Port) (f : Frame)
  deriving DecidableEq, Repr

end Sys2Proof
end

