-- ==== Sys2Proof/Machine/State.lean ====
section
/-!
DEFINITION. The state of the WZC64 as plain data: every record, queue, table, timer, mode and line the manual gives the part,
and the queue of commands that wait. Each field cites the rule that names it.
-/
namespace Sys2Proof.Machine

/-! ### Names -/

/-- Operating modes (R189). -/
inductive Mode where
  | configure
  | operate
  | supervise
  deriving DecidableEq, Repr

/-- The kind of the last start (R189). -/
inductive StartKind where
  | cold
  | warm
  deriving DecidableEq, Repr

/-- The five fractions (chapter 0, "Fractions"). -/
inductive Fraction where
  | residual
  | paper
  | glass
  | packaging
  | organic
  deriving DecidableEq, Repr

/-- The numbered level bands (R50); band UNKNOWN is the absence of one. -/
inductive Band where
  | low
  | notice
  | full
  | lockout
  deriving DecidableEq, Repr

/-- Passage mode of a threshold (section 2.1). -/
inductive PassageMode where
  | off
  | up
  | down
  | both
  deriving DecidableEq, Repr

/-- Sensor states (R36, R37). -/
inductive Sensor where
  | unseen
  | good
  | faulty
  deriving DecidableEq, Repr

/-- Hatch states (R89). -/
inductive Hatch where
  | locked
  | released
  | opened
  deriving DecidableEq, Repr

/-- Force states (R89). -/
inductive Force where
  | none
  | lock
  | release
  deriving DecidableEq, Repr

/-- What a hatch opened under force release does when it closes (R89). -/
inductive CloseAction where
  | returnToReleased
  | lock
  deriving DecidableEq, Repr

/-- A lock or latch output (R12). -/
inductive Output where
  | engage
  | release
  deriving DecidableEq, Repr

/-- A lamp output (R21); RED carries its digit. -/
inductive Lamp where
  | off
  | green
  | red (digit : Nat)
  deriving DecidableEq, Repr

/-- Why a container is BLOCKED (R162). -/
inductive BlockCause where
  | integrityAction
  | actuator
  | lift
  | liftInterrupted
  deriving DecidableEq, Repr

/-- Settle state of an HL or LL (R159). -/
inductive Settle where
  | included
  | settling (remaining : Nat)
  | deferred
  | faulted
  deriving DecidableEq, Repr

/-- Station status at the integrity monitor (R155). -/
inductive StationStatus where
  | suspended
  | unarmed
  | armed
  deriving DecidableEq, Repr

/-- Trigger mode of a station input (R164). -/
inductive Trigger where
  | edge
  | level
  deriving DecidableEq, Repr

/-- Card classes (section 4.1). -/
inductive CardClass where
  | resident
  | business
  | crew
  deriving DecidableEq, Repr

/-- Actions of watch entries (R84). -/
inductive WatchAction where
  | report
  | deny
  | hold
  deriving DecidableEq, Repr

/-- Reasons of collection list entries (section 6.1). -/
inductive Reason where
  | lockout
  | partialLift
  | full
  | inspection
  | host
  | forecast
  deriving DecidableEq, Repr

/-- Phases of an emptying operation (section 7.1). -/
inductive Phase where
  | pending
  | unlatched
  | lifted
  | returned
  deriving DecidableEq, Repr

/-- Outcomes of an emptying operation (section 7.7). -/
inductive LiftOutcome where
  | emptied
  | partialLift
  | abandoned
  | fault
  deriving DecidableEq, Repr

/-- How an operation was started (section 7.1). -/
inductive StartBy where
  | card (id : CardId)
  | host
  deriving DecidableEq, Repr

/-- Event classes (R172), in code order. -/
inductive EventClass where
  | restarted
  | levelPassage
  | overfill
  | sensorFault
  | sensorRecovered
  | admissionDenied
  | cardWatch
  | hatchHeldOpen
  | emptyingDone
  | listEntry
  | integrity
  | actuatorFault
  | doorInput
  | floodInput
  | auxInput
  | stationOffline
  | stationOnline
  | serviceBarred
  deriving DecidableEq, Repr

/-- Actions that EVENT_BINDING may bind (R166). -/
inductive BoundAction where
  | none
  | lockContainer
  | lockStation
  | listInspection
  deriving DecidableEq, Repr

/-- Action result of an event record (R169, R174). -/
inductive ActionResult where
  | none
  | done
  | incomplete
  deriving DecidableEq, Repr

/-- States of the service port (R193, R194). -/
inductive GrantState where
  | restricted
  | granted
  | barred
  deriving DecidableEq, Repr

/-- Refusal codes of a presentation (R92, R94, R174). -/
inductive RefusalCode where
  | mode
  | watched
  | unknown
  | suspended
  | expired
  | notHere
  | fraction
  | blocked
  | forced
  | lockedOut
  | emptying
  | busy
  | multiple
  | quota
  | queueFull
  | offline
  | notListed
  | noRound
  | noSlot
  deriving DecidableEq, Repr

/-- Result codes of replies (section 10.2). -/
inductive ResultCode where
  | ok
  | clamped
  | check
  | length
  | kind
  | mode
  | port
  | range
  | busy
  | notFound
  | full
  | held
  | noSlot
  | noRound
  | notListed
  | offline
  | forced
  | incomplete
  | denied
  | barred
  | noCode
  | endOfWalk
  deriving DecidableEq, Repr

/-! ### Contacts and inputs -/

/-- One value for each of the five contacts of a container (section 1.3.4). -/
structure PerContact (α : Type) where
  hc : α
  hl : α
  ll : α
  se : α
  pd : α
  deriving DecidableEq, Repr

/-- One value for each of the three inputs of a station. -/
structure PerInput (α : Type) where
  door : α
  flood : α
  aux : α
  deriving DecidableEq, Repr

/-- A contact filter (R16): the previous report and the accepted value, each 0, 1 or absent. -/
structure Filter where
  previous : Option Bool
  accepted : Option Bool
  deriving DecidableEq, Repr

/-- Trigger mode and active value of one input (R164). -/
structure InputSetup where
  trigger : Trigger
  active : Bool
  deriving DecidableEq, Repr

/-! ### Containers -/

/-- A container setup (section 2.1). -/
structure Setup where
  /-- E, mm -/
  emptyDistance : Nat
  /-- F, mm -/
  fullDistance : Nat
  /-- v -/
  perWeight : Nat
  /-- α -/
  alpha : Nat
  /-- N -/
  confirmations : Nat
  /-- T_notice -/
  tNotice : Nat
  /-- T_full -/
  tFull : Nat
  /-- T_lock -/
  tLock : Nat
  /-- h -/
  hysteresis : Nat
  /-- T_empty -/
  tEmpty : Nat
  passNotice : PassageMode
  passFull : PassageMode
  passLock : PassageMode
  deriving DecidableEq, Repr

/-- A measurement request or a measurement in flight carries this when it is tagged for verification (R33). -/
structure VerifyTag where
  seedMarker : Bool
  deriving DecidableEq, Repr

/-- A request marker of the scanner (R13), with the verification tag of the request it stands for (R33). -/
structure Marker where
  tag : Option VerifyTag
  deriving DecidableEq, Repr

/-- A measurement in flight (R34): its verification tag and its echo timeout. -/
structure Flight where
  tag : Option VerifyTag
  timeout : Nat
  deriving DecidableEq, Repr

/-- The last accepted sample (section 2.2). -/
structure Sample where
  distance : Nat
  quality : Nat
  level : Nat
  day : Nat
  second : Nat
  deriving DecidableEq, Repr

/-- The estimator record of a container, with its band and band filter (sections 2.2 and 3.1). -/
structure Estimator where
  /-- S: unknown, or fill units. -/
  smoothed : Option Nat
  /-- P. -/
  credit : Nat
  /-- C, recomputed from S and P (R43; held as a field, DESIGN CHOICE, assumption 16, safe). -/
  credited : Nat
  /-- L, recomputed from C (R43). -/
  level : Nat
  /-- R. -/
  rate : Nat
  /-- C_h: unknown, or fill units. -/
  baseline : Option Nat
  /-- H. -/
  forecast : Nat
  /-- The band; `none` is UNKNOWN (R50). -/
  band : Option Band
  /-- The band filter's stored candidate (R50). -/
  candidate : Option Band
  /-- The band filter's count (R50). -/
  count : Nat
  sensor : Sensor
  rejected : Nat
  flight : Option Flight
  periodic : Timer
  postDeposit : Timer
  deposits : Nat
  last : Option Sample
  deriving DecidableEq, Repr

/-- An admission record (R89). -/
structure Admission where
  card : CardId
  weight : Nat
  charged : Bool
  deriving DecidableEq, Repr

/-- A hatch record (R89). -/
structure HatchRecord where
  state : Hatch
  force : Force
  admission : Option Admission
  window : Timer
  deposit : Timer
  closeAction : CloseAction
  deriving DecidableEq, Repr

/-- The pending flags of a container (R170). -/
structure ContainerFlags where
  passNotice : Bool
  passFull : Bool
  passLock : Bool
  overfill : Bool
  sensorFault : Bool
  hatchHeldOpen : Bool
  actuatorFault : Bool
  integrity : Bool
  deriving DecidableEq, Repr

/-- The part of an output image that belongs to one slot (R12). -/
structure Outputs where
  lock : Output
  latch : Output
  lamp : Lamp
  deriving DecidableEq, Repr

/-- Everything the blocks hold for one container in use. -/
structure Container where
  /-- Identity record (R1); its number follows from its place. -/
  fraction : Fraction
  /-- Latched setup (R25). -/
  latched : Option Setup
  /-- Pending setup (R25). -/
  written : Option Setup
  /-- Written marker (R25). -/
  writtenMarker : Bool
  est : Estimator
  hatch : HatchRecord
  flags : ContainerFlags
  /-- BLOCKED state with its cause (R162). -/
  blocked : Option BlockCause
  /-- Settle state of HL (R159). -/
  settleHL : Settle
  /-- Settle state of LL (R159). -/
  settleLL : Settle
  /-- Members of the station's host mask at this container (R154). -/
  mask : PerContact Bool
  /-- The seating check is armed (R151). -/
  seatingCheck : Bool
  /-- This slot's part of the output image (R12). -/
  outputs : Outputs
  /-- Lamp hold (R21). -/
  lampHold : Timer
  /-- Measurement request marker (R13). -/
  marker : Option Marker
  /-- Contact filters (R16). -/
  contacts : PerContact Filter
  deriving DecidableEq, Repr

/-! ### Stations -/

/-- The pending flags of a station (R170). -/
structure StationFlags where
  door : Bool
  flood : Bool
  aux : Bool
  offline : Bool
  deriving DecidableEq, Repr

/-- A defined station. Its slot count is the number of its slots, so container `c` is in use exactly when station `c / 4` is
defined and has a slot `c % 4` (R1). -/
structure Station where
  /-- Node address (R2). -/
  node : Nat
  /-- Online state (R18). -/
  online : Bool
  /-- Miss count (R15). -/
  misses : Nat
  /-- Input filters (R16). -/
  inputs : PerInput Filter
  /-- Output revision (R12). -/
  revision : Byte
  /-- Acknowledged revision (R12). -/
  acknowledged : Option Byte
  /-- Resend marker (R12). -/
  resend : Bool
  /-- Input setup (R164). -/
  inputSetup : PerInput InputSetup
  flags : StationFlags
  /-- Station status at the integrity monitor (R155). -/
  status : StationStatus
  /-- Slots in use, slot 0 first. -/
  slots : List Container
  deriving DecidableEq, Repr

/-- The station bus between two steps (R10, R11). -/
structure Bus where
  /-- The station whose visit is in progress. -/
  visiting : Option Nat
  /-- The station visited last, from which the round-robin order goes on. -/
  last : Option Nat
  /-- The frames sent in the latest visit, in order, byte by byte (R10). -/
  sent : List (List Byte)
  deriving DecidableEq, Repr

/-! ### Clock, directory, watch list -/

/-- The district clock (section 1.2). -/
structure Clock where
  day : Nat
  second : Nat
  /-- UNSET (R6). -/
  unset : Bool
  /-- An hour-boundary notice is due: the counting has reached a multiple of 3600 and HOUR_BOUNDARY has not been taken yet (R7). -/
  boundaryDue : Bool
  deriving DecidableEq, Repr

/-- A card record (section 4.1). -/
structure Card where
  id : CardId
  cls : CardClass
  suspended : Bool
  home : StationSet
  fractions : FractionSet
  allowance : Nat
  used : Nat
  reserved : Nat
  period : Nat
  expiry : Option Nat
  weight : Option Nat
  deriving DecidableEq, Repr

/-- A card record as a CARD_PUT request gives it: the fields of the layout table of section 4.1 before any check. -/
structure CardForm where
  id : CardId
  /-- Bits 0..1 of offset 7. -/
  classCode : Nat
  suspended : Bool
  hasExpiry : Bool
  hasWeight : Bool
  setUsage : Bool
  /-- Bits 6..7 of offset 7 hold a one. -/
  reservedBits : Bool
  home : StationSet
  fractionByte : Byte
  allowance : Nat
  used : Nat
  expiry : Nat
  weight : Nat
  deriving DecidableEq, Repr

/-- The records of a directory edit that are still to be processed (R75, R77). -/
inductive EditWork where
  | put (todo : List CardForm)
  | delete (todo : List CardId)
  deriving DecidableEq, Repr

/-- The directory edit in flight (R78): its port, its remaining records and the results so far. -/
structure Edit where
  port : Port
  work : EditWork
  results : List ResultCode
  deriving DecidableEq, Repr

/-- The card directory (chapter 4). A cursor that is `none` stands "before first" (R81). -/
structure Directory where
  cards : List Card
  cursorGateway : Option CardId
  cursorService : Option CardId
  edit : Option Edit
  /-- Charged set (R67). -/
  charged : FractionSet
  /-- Period length in days (R67). -/
  periodLength : Nat
  deriving DecidableEq, Repr

/-- A watch entry (R84). -/
structure WatchEntry where
  id : CardId
  action : WatchAction
  deriving DecidableEq, Repr

/-- A presentation in the presentation queue (R90). -/
structure Presentation where
  container : Nat
  card : CardId
  deriving DecidableEq, Repr

/-! ### Collection list, round, operations -/

/-- A collection list entry (section 6.1). -/
structure Entry where
  container : Nat
  reason : Reason
  claimed : Bool
  day : Nat
  second : Nat
  forecast : Nat
  deriving DecidableEq, Repr

/-- The record of an open round (section 6.4); a closed round is the absence of one. -/
structure Round where
  stations : StationSet
  capacity : Nat
  claims : Nat
  nEmptied : Nat
  nPartial : Nat
  nAbandoned : Nat
  nFault : Nat
  started : ContainerSet
  deriving DecidableEq, Repr

/-- An operation record (section 7.1). -/
structure Operation where
  container : Nat
  phase : Phase
  start : StartBy
  order : Nat
  timer : Timer
  attempts : Nat
  seedTaken : Bool
  verified : Option Nat
  depositsAtSeed : Option Nat
  deriving DecidableEq, Repr

/-! ### Events -/

/-- Report enable, priority and action of a class (R166, R172). -/
structure Binding where
  enabled : Bool
  priority : Nat
  action : BoundAction
  deriving DecidableEq, Repr

/-- One container's share of an INTEGRITY body (R174): its mismatching contacts and their accepted values. -/
structure Breach where
  container : Nat
  mismatch : PerContact Bool
  accepted : PerContact Bool
  deriving DecidableEq, Repr

/-- The body of an event record (R174). -/
inductive EventBody where
  | restarted (kind : StartKind) (mode : Mode)
  | levelPassage (threshold : Nat) (upward : Bool) (level : Nat)
  | overfill (distance : Nat)
  | sensorFault (rejected : Nat)
  | sensorRecovered (level : Nat)
  | admissionDenied (card : CardId) (code : RefusalCode)
  | cardWatch (card : CardId) (action : WatchAction)
  | hatchHeldOpen (card : Option CardId)
  | emptyingDone (outcome : LiftOutcome) (phase : Phase) (start : StartBy) (attempts : Nat) (verified : Option Nat) (deposits : Nat)
  | listEntry (reason : Reason) (previous : Option Reason) (claimed : Bool) (forecast level : Nat)
  | integrity (breaches : List Breach)
  | actuatorFault (actuator : Actuator) (expected : Bool) (accepted : Option Bool)
  | input (accepted : Bool) (trigger : Trigger)
  | stationOffline
  | stationOnline
  | serviceBarred (failures : Nat)
  deriving DecidableEq, Repr

/-- An event as raised: its class, the binding values in force at the raising (R172), its time and its fields (R174). -/
structure Event where
  cls : EventClass
  enabled : Bool
  priority : Nat
  day : Nat
  second : Nat
  station : Option Nat
  container : Option Nat
  body : EventBody
  deriving DecidableEq, Repr

/-- An event record in the report queue (R174). -/
structure Record where
  event : Event
  result : ActionResult
  /-- Slots not engaged, slot `s` in bit `s`. -/
  notEngaged : BitVec 4
  seq : BitVec 16
  deriving DecidableEq, Repr

/-- The report queue block's queue, marker, counter and line (R174 to R178). -/
structure Report where
  queue : List Record
  overflowed : Bool
  /-- The sequence number the next posting takes. -/
  nextSeq : BitVec 16
  /-- The ATTN line (R178). -/
  attn : Bool
  deriving DecidableEq, Repr

/-- A confirmation part (R168): waiting for the hatch to close, its window running, or ended. -/
inductive PartState where
  | waiting
  | window (remaining : Nat)
  | confirmed
  | notEngaged
  deriving DecidableEq, Repr

/-- The confirmation part of one container (R168). -/
structure Part where
  container : Nat
  state : PartState
  deriving DecidableEq, Repr

/-- A bound lock action in flight: the event it holds and its parts (R167 to R169). -/
structure HeldAction where
  event : Event
  parts : List Part
  deriving DecidableEq, Repr

/-! ### Tuning and ports -/

/-- The TUNING items (R186). -/
structure Tuning where
  interval : Nat
  postDeposit : Nat
  releaseWindow : Nat
  depositTime : Nat
  liftWait : Nat
  settleTime : Nat
  horizon : Nat
  attention : Nat
  deriving DecidableEq, Repr

/-- The TUNING defaults (R186). -/
def Tuning.default : Tuning where
  interval := 900
  postDeposit := 15
  releaseWindow := 20
  depositTime := 90
  liftWait := 300
  settleTime := 3
  horizon := 12
  attention := 4

/-- A port's receiver (R181). -/
inductive Receiver where
  | idle
  | receiving (got : List Byte)
  deriving DecidableEq, Repr

/-- A segment remainder (R184): the kind and the result code of the reply it belongs to, and the bytes not sent yet. -/
structure Remainder where
  kind : Byte
  code : ResultCode
  rest : List Byte
  deriving DecidableEq, Repr

/-- A port between two steps (R181 to R184). -/
structure PortState where
  receiver : Receiver
  /-- The port is busy (R183). -/
  busy : Bool
  /-- The reply frame in transmission, byte by byte (R180). -/
  reply : Option (List Byte)
  remainder : Option Remainder
  /-- The reply in transmission answers a RESTART, whose warm start follows its last byte (R188). -/
  restartDue : Bool
  deriving DecidableEq, Repr

/-- An idle port (R188). -/
def PortState.idle : PortState where
  receiver := .idle
  busy := false
  reply := none
  remainder := none
  restartDue := false

/-- The gate of the service port (section 10.5). -/
structure Grant where
  state : GrantState
  failures : Nat
  /-- Stored service code (R195). -/
  code : Option (BitVec 64)
  /-- Inactivity timer (R194). -/
  inactivity : Timer
  deriving DecidableEq, Repr

/-! ### The whole -/

/-- The state of the part. -/
structure State where
  /-- The commands that wait, first in first out. The model's own field. -/
  pending : List Instr
  clock : Clock
  mode : Mode
  startKind : StartKind
  /-- Station records 0..15; `none` is not defined (section 1.1). -/
  stations : List (Option Station)
  bus : Bus
  directory : Directory
  /-- Watch entries in order (R84). -/
  watch : List WatchEntry
  /-- Presentation queue, oldest first (R90). -/
  waiting : List Presentation
  /-- Collection list, in list order (R114). -/
  collection : List Entry
  round : Option Round
  /-- The four operation slots (section 7.1). -/
  ops : List (Option Operation)
  /-- Bound actions in flight, oldest first (section 8.7). -/
  actions : List HeldAction
  /-- The bindings of the 18 classes, in code order (R172). -/
  bindings : List Binding
  report : Report
  tuning : Tuning
  gateway : PortState
  service : PortState
  grant : Grant
  deriving DecidableEq, Repr

/-- Why the part could stop with a fault. The manual gives every command an effect on every state, so there is no such reason. -/
inductive Fault where
  deriving DecidableEq, Repr

/-- Why a command could be refused by the model. -/
inductive Refusal where
  /-- Raised by `exec` for a row that has no meaning yet (safe: the model stops). No row is left so. -/
  | notModelled (mnemonic : String)
  deriving DecidableEq, Repr

/-- The bindings after a cold start (R172). -/
def coldBindings : List Binding :=
  [ { enabled := true, priority := 5, action := .none },   -- RESTARTED
    { enabled := true, priority := 3, action := .none },   -- LEVEL_PASSAGE
    { enabled := true, priority := 5, action := .none },   -- OVERFILL
    { enabled := true, priority := 4, action := .none },   -- SENSOR_FAULT
    { enabled := true, priority := 1, action := .none },   -- SENSOR_RECOVERED
    { enabled := false, priority := 2, action := .none },  -- ADMISSION_DENIED
    { enabled := true, priority := 3, action := .none },   -- CARD_WATCH
    { enabled := true, priority := 4, action := .none },   -- HATCH_HELD_OPEN
    { enabled := true, priority := 3, action := .none },   -- EMPTYING_DONE
    { enabled := true, priority := 1, action := .none },   -- LIST_ENTRY
    { enabled := true, priority := 7, action := .none },   -- INTEGRITY
    { enabled := true, priority := 7, action := .none },   -- ACTUATOR_FAULT
    { enabled := true, priority := 6, action := .none },   -- DOOR_INPUT
    { enabled := true, priority := 7, action := .none },   -- FLOOD_INPUT
    { enabled := true, priority := 4, action := .none },   -- AUX_INPUT
    { enabled := true, priority := 6, action := .none },   -- STATION_OFFLINE
    { enabled := true, priority := 3, action := .none },   -- STATION_ONLINE
    { enabled := true, priority := 6, action := .none } ]  -- SERVICE_BARRED

/-- The record of RESTARTED(COLD, CONFIGURE), posted with sequence number 0 at a cold start (R179). -/
def coldRecord : Record where
  event :=
    { cls := .restarted, enabled := true, priority := 5, day := 0, second := 0, station := none, container := none,
      body := .restarted .cold .configure }
  result := .none
  notEngaged := 0
  seq := 0

/-- The machine right after a cold start: every block in its cold-start state (R5, R6, R22, R25, R67, R74, R81, R84, R91, R112,
R113, R124, R129, R152, R166, R172, R178, R179, R186, R188, R189, R195), RESTARTED posted and ATTN asserted by it (R179; DEDUCED that
reset is the end of the start, assumption 21, unsafe). -/
def State.reset : State where
  pending := []
  clock := { day := 0, second := 0, unset := true, boundaryDue := false }
  mode := .configure
  startKind := .cold
  stations := List.replicate 16 none
  bus := { visiting := none, last := none, sent := [] }
  directory :=
    { cards := [], cursorGateway := none, cursorService := none, edit := none, charged := 1, periodLength := 7 }
  watch := []
  waiting := []
  collection := []
  round := none
  ops := List.replicate 4 none
  actions := []
  bindings := coldBindings
  report := { queue := [coldRecord], overflowed := false, nextSeq := 1, attn := true }
  tuning := .default
  gateway := .idle
  service := .idle
  grant := { state := .restricted, failures := 0, code := none, inactivity := none }

end Sys2Proof.Machine
end

