-- ==== Sys2Proof/Machine/Records.lean ====
section
/-!
DEFINITION. The records as they come into use: what a container, a station's inputs, a hatch or an estimator starts with.
-/
namespace Sys2Proof.Machine

/-- A cleared filter (R16). -/
def Filter.cleared : Filter := { previous := none, accepted := none }

/-- The same value at all five contacts. -/
def PerContact.all {α : Type} (x : α) : PerContact α where
  hc := x
  hl := x
  ll := x
  se := x
  pd := x

/-- The same value at all three inputs. -/
def PerInput.all {α : Type} (x : α) : PerInput α where
  door := x
  flood := x
  aux := x

/-- The default input setup (R164). -/
def InputSetup.default : PerInput InputSetup where
  door := { trigger := .edge, active := false }
  flood := { trigger := .level, active := true }
  aux := { trigger := .edge, active := true }

/-- The estimator of a container with no latched setup (R25, R49, R50): nothing known, zeros, no band (H = 0 is DEDUCED, assumption 15,
unsafe). -/
def Estimator.fresh : Estimator where
  smoothed := none
  credit := 0
  credited := 0
  level := 0
  rate := 0
  baseline := none
  forecast := 0
  band := none
  candidate := none
  count := 0
  sensor := .unseen
  rejected := 0
  flight := none
  periodic := none
  postDeposit := none
  deposits := 0
  last := none

/-- The hatch record of a container that comes into use, and of every container after a warm start (R89, R112). -/
def HatchRecord.rest : HatchRecord where
  state := .locked
  force := .none
  admission := none
  window := none
  deposit := none
  closeAction := .lock

/-- No flag set (R170). -/
def ContainerFlags.clear : ContainerFlags where
  passNotice := false
  passFull := false
  passLock := false
  overfill := false
  sensorFault := false
  hatchHeldOpen := false
  actuatorFault := false
  integrity := false

/-- No flag set (R170). -/
def StationFlags.clear : StationFlags where
  door := false
  flood := false
  aux := false
  offline := false

/-- Lock and latch at ENGAGE and the lamp OFF (R3, R22). -/
def Outputs.rest : Outputs where
  lock := .engage
  latch := .engage
  lamp := .off

/-- A container that comes into use (R3, R25, R89, R152). -/
def Container.fresh (fraction : Fraction) : Container where
  fraction := fraction
  latched := none
  written := none
  writtenMarker := false
  est := .fresh
  hatch := .rest
  flags := .clear
  blocked := none
  settleHL := .included
  settleLL := .included
  mask := .all false
  seatingCheck := false
  outputs := .rest
  lampHold := none
  marker := none
  contacts := .all .cleared

end Sys2Proof.Machine
end

