-- ==== Sys2Proof/Machine/Operands.lean ====
section
/-!
DEFINITION. The operand forms: numbers and sets in the bytes of a frame, the check byte, what each message kind calls for
(R185, R192), and the parameters of the requests with records. Also the POLL reply, byte by byte (R14).
-/
namespace Sys2Proof.Machine

/-! ### Numbers in bytes, high byte first (R185) -/

/-- One byte of a number. -/
def byteOf (n : Nat) : Byte := BitVec.ofNat 8 n

/-- The number that bytes spell, high byte first. -/
def numberOf (bs : List Byte) : Nat := bs.foldl (fun n b => 256 * n + b.toNat) 0

/-- `n` in `k` bytes, high byte first. -/
def bytesOf : Nat → Nat → List Byte
  | 0, _ => []
  | k + 1, n => byteOf (n / 256 ^ k) :: bytesOf k n

/-- The number in `k` bytes at place `i` of a parameter list. -/
def field (ps : List Byte) (i k : Nat) : Nat := numberOf ((ps.drop i).take k)

/-- The byte at place `i` of a parameter list, as a number. -/
def byteAt (ps : List Byte) (i : Nat) : Nat := field ps i 1

/-- A yes/no item (R185). -/
def yesNo (b : Bool) : Byte := if b then 1 else 0

/-- A contact or input value, 2 for not yet accepted (R185). -/
def acceptedByte : Option Bool → Byte
  | some true => 1
  | some false => 0
  | none => 2

/-- Whether a bit of a number is set. -/
def bitOf (n i : Nat) : Bool := n.testBit i

/-- A number with the given bits, bit 0 first. -/
def ofBits : List Bool → Nat
  | [] => 0
  | b :: bs => (if b then 1 else 0) + 2 * ofBits bs

/-! ### Frames (R180) -/

/-- The start byte of a frame. -/
def startByte : Byte := 0xA5

/-- The check byte of a body: the exclusive OR of the length byte and all body bytes (R180). -/
def checkOf (body : List Byte) : Byte := body.foldl (· ^^^ ·) (byteOf body.length)

/-- The check byte of a frame is right (R182, first test). -/
def frameChecks (kind : Byte) (f : Frame) : Bool := f.check == checkOf (kind :: f.params)

/-- A whole frame around a body (R180). -/
def frameOf (body : List Byte) : List Byte := startByte :: byteOf body.length :: body ++ [checkOf body]

/-- The frame of a request with these parameters and the right check byte. -/
def request (kind : Byte) (params : List Byte) : Frame := { params := params, check := checkOf (kind :: params) }

/-! ### What a message kind calls for -/

/-- What R185 and R192 say of one message kind: the parameter bytes it takes, the ports and the modes. -/
structure RequestRule where
  /-- The parameter bytes fit the kind and any count they carry (R185). -/
  fits : List Byte → Bool
  onGateway : Bool
  onService : Bool
  inConfigure : Bool
  inOperate : Bool
  inSupervise : Bool

/-- A fixed number of parameter bytes. -/
def exactly (n : Nat) : List Byte → Bool := fun ps => ps.length == n

/-- Taken in every mode on both ports (R192, first row). -/
def anywhere (fits : List Byte → Bool) : RequestRule := ⟨fits, true, true, true, true, true⟩

/-- Taken in CONFIGURE alone, on both ports (R192). -/
def configureOnly (fits : List Byte → Bool) : RequestRule := ⟨fits, true, true, true, false, false⟩

/-- Taken in OPERATE and SUPERVISE, on both ports (R192). -/
def serviceModes (fits : List Byte → Bool) : RequestRule := ⟨fits, true, true, false, true, true⟩

/-- Taken in SUPERVISE alone, on both ports (R192). -/
def superviseOnly (fits : List Byte → Bool) : RequestRule := ⟨fits, true, true, false, false, true⟩

/-- Taken in every mode on the gateway link alone (R192). -/
def gatewayOnly (fits : List Byte → Bool) : RequestRule := ⟨fits, true, false, true, true, true⟩

/-- Taken in every mode on the service port alone (R192). -/
def servicePortOnly (fits : List Byte → Bool) : RequestRule := ⟨fits, false, true, true, true, true⟩

/-- The table of R185 with the table of R192; `none` for a kind that names no request. -/
def requestRule (kind : Byte) : Option RequestRule :=
  match kind.toNat with
  | 1 => some (anywhere (exactly 0))        -- IDENT
  | 2 => some (anywhere (exactly 0))        -- STATUS
  | 3 => some (anywhere (exactly 1))        -- SET_MODE
  | 4 => some (anywhere (exactly 0))        -- RESTART
  | 5 => some (anywhere fun ps => ps.length % 3 == 0 && ps.length ≤ 24)  -- TUNING
  | 6 => some (gatewayOnly (exactly 5))     -- SET_CLOCK
  | 7 => some (anywhere (exactly 0))        -- CONTINUE
  | 8 => some (gatewayOnly (exactly 1))     -- EVENTS_FETCH
  | 9 => some (anywhere (exactly 1))        -- CONTAINER_READ
  | 10 => some (anywhere (exactly 1))       -- STATION_READ
  | 11 => some (configureOnly fun ps => 3 ≤ ps.length && ps.length == 3 + byteAt ps 2)  -- STATION_DEFINE
  | 12 => some (configureOnly (exactly 19)) -- CONTAINER_SETUP
  | 13 => some (configureOnly (exactly 2))  -- FRACTION_RULES
  | 14 => some (configureOnly (exactly 4))  -- EVENT_BINDING
  | 15 => some (configureOnly (exactly 7))  -- INPUT_SETUP
  | 16 => some ⟨exactly 4, true, true, true, false, true⟩  -- INTEGRITY_MASK
  | 17 => some ⟨fun ps => ps.length == 0 || ps.length == 8, true, false, true, false, false⟩  -- SERVICE_CODE
  | 18 => some (gatewayOnly (exactly 0))    -- SERVICE_CLEAR
  | 19 => some (servicePortOnly (exactly 8))  -- UNLOCK
  | 20 => some (servicePortOnly (exactly 0))  -- SERVICE_END
  | 21 => some (anywhere (exactly 7))       -- CARD_GET
  | 22 => some (anywhere (exactly 1))       -- CARD_NEXT
  | 23 => some (anywhere fun ps => 1 ≤ ps.length && ps.length == 1 + 19 * byteAt ps 0)  -- CARD_PUT
  | 24 => some (anywhere fun ps => 1 ≤ ps.length && ps.length == 1 + 7 * byteAt ps 0)   -- CARD_DELETE
  | 25 => some (anywhere (exactly 8))       -- WATCH_SET
  | 26 => some (anywhere (exactly 7))       -- WATCH_CLEAR
  | 27 => some (anywhere (exactly 0))       -- WATCH_LIST
  | 28 => some (anywhere fun ps => 1 ≤ ps.length && ps.length == if byteAt ps 0 == 1 then 4 else 10)  -- FLAGS_CLEAR
  | 29 => some (anywhere (exactly 0))       -- LIST_READ
  | 30 => some (serviceModes (exactly 1))   -- LIST_ADD
  | 31 => some (superviseOnly (exactly 1))  -- LIST_REMOVE
  | 32 => some (serviceModes (exactly 4))   -- ROUND_OPEN
  | 33 => some (serviceModes (exactly 0))   -- ROUND_CLOSE
  | 34 => some (serviceModes (exactly 1))   -- LIFT_START
  | 35 => some (serviceModes (exactly 1))   -- MEASURE_NOW
  | 36 => some (superviseOnly (exactly 1))  -- FORCE_LOCK
  | 37 => some (superviseOnly (exactly 1))  -- FORCE_RELEASE
  | 38 => some (superviseOnly (exactly 1))  -- FORCE_CANCEL
  | 39 => some (superviseOnly (exactly 1))  -- UNBLOCK
  | _ => none

/-- The request is allowed on a port (R192). -/
def RequestRule.onPort (r : RequestRule) : Port → Bool
  | .gateway => r.onGateway
  | .service => r.onService

/-- The request is allowed in a mode (R192). -/
def RequestRule.inMode (r : RequestRule) : Mode → Bool
  | .configure => r.inConfigure
  | .operate => r.inOperate
  | .supervise => r.inSupervise

/-! ### Codes (R174, R185, section 10.2) -/

/-- The value of a result code (section 10.2). -/
def ResultCode.value : ResultCode → Byte
  | .ok => 0
  | .clamped => 1
  | .check => 2
  | .length => 3
  | .kind => 4
  | .mode => 5
  | .port => 6
  | .range => 7
  | .busy => 8
  | .notFound => 9
  | .full => 10
  | .held => 11
  | .noSlot => 12
  | .noRound => 13
  | .notListed => 14
  | .offline => 15
  | .forced => 16
  | .incomplete => 17
  | .denied => 18
  | .barred => 19
  | .noCode => 20
  | .endOfWalk => 21

/-- The value of a refusal code in an ADMISSION_DENIED body (R174). -/
def RefusalCode.value : RefusalCode → Nat
  | .mode => 1
  | .watched => 2
  | .unknown => 3
  | .suspended => 4
  | .expired => 5
  | .notHere => 6
  | .fraction => 7
  | .blocked => 8
  | .forced => 9
  | .lockedOut => 10
  | .emptying => 11
  | .busy => 12
  | .multiple => 13
  | .quota => 14
  | .queueFull => 15
  | .offline => 16
  | .notListed => 17
  | .noRound => 18
  | .noSlot => 19

/-- The lamp digit of a refusal code (R98); OFFLINE asks for no showing (R91). -/
def RefusalCode.digit : RefusalCode → Option Nat
  | .unknown => some 1
  | .suspended => some 2
  | .watched => some 2
  | .expired => some 3
  | .notHere => some 4
  | .fraction => some 5
  | .quota => some 6
  | .lockedOut => some 7
  | .mode => some 8
  | .blocked => some 8
  | .forced => some 8
  | .emptying => some 8
  | .notListed => some 8
  | .noRound => some 8
  | .busy => some 9
  | .queueFull => some 9
  | .multiple => some 9
  | .noSlot => some 9
  | .offline => none

/-- Mode codes (R185). -/
def Mode.code : Mode → Nat
  | .configure => 0
  | .operate => 1
  | .supervise => 2

/-- The mode a code names (R185). -/
def modeOfCode : Nat → Option Mode
  | 0 => some .configure
  | 1 => some .operate
  | 2 => some .supervise
  | _ => none

/-- Start kind codes (R185). -/
def StartKind.code : StartKind → Nat
  | .cold => 0
  | .warm => 1

/-- Port codes (R185). -/
def portCode : Port → Nat
  | .gateway => 0
  | .service => 1

/-- Fraction codes (R49, R185). -/
def Fraction.code : Fraction → Nat
  | .residual => 0
  | .paper => 1
  | .glass => 2
  | .packaging => 3
  | .organic => 4

/-- The fraction a code names (R185). -/
def fractionOfCode : Nat → Option Fraction
  | 0 => some .residual
  | 1 => some .paper
  | 2 => some .glass
  | 3 => some .packaging
  | 4 => some .organic
  | _ => none

/-- A fraction is a member of a set (section 4.1). -/
def Fraction.isIn (f : Fraction) (fs : FractionSet) : Bool := fs.getLsbD f.code

/-- Band numbers (section 3.1). -/
def Band.number : Band → Nat
  | .low => 0
  | .notice => 1
  | .full => 2
  | .lockout => 3

/-- Sensor state codes (R49). -/
def Sensor.code : Sensor → Nat
  | .unseen => 0
  | .good => 1
  | .faulty => 2

/-- Hatch state codes (R49). -/
def Hatch.code : Hatch → Nat
  | .locked => 0
  | .released => 1
  | .opened => 2

/-- Force state codes (R49). -/
def Force.code : Force → Nat
  | .none => 0
  | .lock => 1
  | .release => 2

/-- Phase codes; 0 stands for no operation (R49). -/
def Phase.code : Phase → Nat
  | .pending => 1
  | .unlatched => 2
  | .lifted => 3
  | .returned => 4

/-- BLOCKED causes; 0 stands for not blocked (R49). -/
def blockCode : Option BlockCause → Nat
  | none => 0
  | some .integrityAction => 1
  | some .actuator => 2
  | some .lift => 3
  | some .liftInterrupted => 4

/-- Reason codes, which are also the urgencies (R49, section 6.1); 0 stands for no entry. -/
def Reason.code : Reason → Nat
  | .lockout => 1
  | .partialLift => 2
  | .full => 3
  | .inspection => 4
  | .host => 5
  | .forecast => 6

/-- Passage mode codes (R49). -/
def PassageMode.code : PassageMode → Nat
  | .off => 0
  | .up => 1
  | .down => 2
  | .both => 3

/-- The passage mode that two bits name (R49). -/
def passageModeOfCode : Nat → PassageMode
  | 0 => .off
  | 1 => .up
  | 2 => .down
  | _ => .both

/-- Card class codes (section 4.1). -/
def CardClass.code : CardClass → Nat
  | .resident => 0
  | .business => 1
  | .crew => 2

/-- The card class a code names (section 4.1). -/
def cardClassOfCode : Nat → Option CardClass
  | 0 => some .resident
  | 1 => some .business
  | 2 => some .crew
  | _ => none

/-- Watch action codes (R86). -/
def WatchAction.code : WatchAction → Nat
  | .report => 0
  | .deny => 1
  | .hold => 2

/-- The watch action a code names (R185). -/
def watchActionOfCode : Nat → Option WatchAction
  | 0 => some .report
  | 1 => some .deny
  | 2 => some .hold
  | _ => none

/-- Outcome codes (R174). -/
def LiftOutcome.code : LiftOutcome → Nat
  | .emptied => 0
  | .partialLift => 1
  | .abandoned => 2
  | .fault => 3

/-- Event class codes (R172). -/
def EventClass.code : EventClass → Nat
  | .restarted => 1
  | .levelPassage => 2
  | .overfill => 3
  | .sensorFault => 4
  | .sensorRecovered => 5
  | .admissionDenied => 6
  | .cardWatch => 7
  | .hatchHeldOpen => 8
  | .emptyingDone => 9
  | .listEntry => 10
  | .integrity => 11
  | .actuatorFault => 12
  | .doorInput => 13
  | .floodInput => 14
  | .auxInput => 15
  | .stationOffline => 16
  | .stationOnline => 17
  | .serviceBarred => 18

/-- The event class a code names (R172). -/
def eventClassOfCode : Nat → Option EventClass
  | 1 => some .restarted
  | 2 => some .levelPassage
  | 3 => some .overfill
  | 4 => some .sensorFault
  | 5 => some .sensorRecovered
  | 6 => some .admissionDenied
  | 7 => some .cardWatch
  | 8 => some .hatchHeldOpen
  | 9 => some .emptyingDone
  | 10 => some .listEntry
  | 11 => some .integrity
  | 12 => some .actuatorFault
  | 13 => some .doorInput
  | 14 => some .floodInput
  | 15 => some .auxInput
  | 16 => some .stationOffline
  | 17 => some .stationOnline
  | 18 => some .serviceBarred
  | _ => none

/-- An action other than NONE may be bound to the class (R166). -/
def EventClass.bindable : EventClass → Bool
  | .integrity => true
  | .actuatorFault => true
  | .doorInput => true
  | .floodInput => true
  | .auxInput => true
  | .overfill => true
  | .sensorFault => true
  | .hatchHeldOpen => true
  | _ => false

/-- Bound action codes (R173). -/
def BoundAction.code : BoundAction → Nat
  | .none => 0
  | .lockContainer => 1
  | .lockStation => 2
  | .listInspection => 3

/-- The bound action a code names (R173). -/
def boundActionOfCode : Nat → Option BoundAction
  | 0 => some .none
  | 1 => some .lockContainer
  | 2 => some .lockStation
  | 3 => some .listInspection
  | _ => none

/-- Trigger mode codes (R185). -/
def Trigger.code : Trigger → Nat
  | .edge => 0
  | .level => 1

/-- The trigger mode a code names (R185). -/
def triggerOfCode : Nat → Option Trigger
  | 0 => some .edge
  | 1 => some .level
  | _ => none

/-- Service port state codes (R187). -/
def GrantState.code : GrantState → Nat
  | .restricted => 0
  | .granted => 1
  | .barred => 2

/-- A lock or latch output as an ACT carries it (R10). -/
def Output.byte : Output → Byte
  | .engage => 0
  | .release => 1

/-- A lamp output as an ACT carries it (R10). -/
def Lamp.byte : Lamp → Byte
  | .off => 0
  | .green => 1
  | .red d => byteOf (16 + d)

/-! ### Contacts -/

/-- Apply a function at each contact. -/
def PerContact.map {α β : Type} (f : α → β) (x : PerContact α) : PerContact β where
  hc := f x.hc
  hl := f x.hl
  ll := f x.ll
  se := f x.se
  pd := f x.pd

/-- Join two values contact by contact. -/
def PerContact.zip {α β γ : Type} (f : α → β → γ) (x : PerContact α) (y : PerContact β) : PerContact γ where
  hc := f x.hc y.hc
  hl := f x.hl y.hl
  ll := f x.ll y.ll
  se := f x.se y.se
  pd := f x.pd y.pd

/-- The five values, HC first. -/
def PerContact.toList {α : Type} (x : PerContact α) : List α := [x.hc, x.hl, x.ll, x.se, x.pd]

/-- Some contact has the property. -/
def PerContact.any {α : Type} (p : α → Bool) (x : PerContact α) : Bool := x.toList.any p

/-- Five bits from bit `i` of a number on, HC lowest (R14, R154). -/
def contactBits (n i : Nat) : PerContact Bool where
  hc := bitOf n i
  hl := bitOf n (i + 1)
  ll := bitOf n (i + 2)
  se := bitOf n (i + 3)
  pd := bitOf n (i + 4)

/-! ### Parameters with records -/

/-- The card id at place `i` (R185). -/
def cardIdAt (ps : List Byte) (i : Nat) : CardId := BitVec.ofNat 56 (field ps i 7)

/-- The card record at place `i` of a CARD_PUT (section 4.1). -/
def cardFormAt (ps : List Byte) (i : Nat) : CardForm :=
  let b := byteAt ps (i + 7)
  { id := cardIdAt ps i
    classCode := b % 4
    suspended := bitOf b 2
    hasExpiry := bitOf b 3
    hasWeight := bitOf b 4
    setUsage := bitOf b 5
    reservedBits := bitOf b 6 || bitOf b 7
    home := BitVec.ofNat 16 (field ps (i + 8) 2)
    fractionByte := byteOf (byteAt ps (i + 10))
    allowance := byteAt ps (i + 11)
    used := byteAt ps (i + 12)
    expiry := field ps (i + 16) 2
    weight := byteAt ps (i + 18) }

/-- The records of a CARD_PUT, in request order (R75). -/
def cardFormsOf (ps : List Byte) : List CardForm := (List.range (byteAt ps 0)).map fun i => cardFormAt ps (1 + 19 * i)

/-- The ids of a CARD_DELETE, in request order (R77). -/
def cardIdsOf (ps : List Byte) : List CardId := (List.range (byteAt ps 0)).map fun i => cardIdAt ps (1 + 7 * i)

/-- A field that is carried when its presence bit is set, and takes its default otherwise (R24, R185). -/
def carried (present : Nat) (bit : Nat) (given default : Nat) : Nat := if bitOf present bit then given else default

/-- The setup a CONTAINER_SETUP gives, after defaulting (R24, section 2.1). -/
def setupOf (ps : List Byte) : Setup :=
  let p := byteAt ps 1
  let modes := carried p 6 (byteAt ps 18) 0x35
  { emptyDistance := field ps 2 2
    fullDistance := field ps 4 2
    perWeight := carried p 0 (byteAt ps 6) 40
    alpha := carried p 1 (byteAt ps 7) 4
    confirmations := carried p 2 (byteAt ps 8) 2
    tNotice := carried p 3 (field ps 9 2) 700
    tFull := carried p 3 (field ps 11 2) 900
    tLock := carried p 3 (field ps 13 2) 980
    hysteresis := carried p 4 (byteAt ps 15) 30
    tEmpty := carried p 5 (field ps 16 2) 150
    passNotice := passageModeOfCode (modes % 4)
    passFull := passageModeOfCode (modes / 4 % 4)
    passLock := passageModeOfCode (modes / 16 % 4) }

/-- The ranges and ordering constraints of a setup (R24, section 2.1). -/
def Setup.inRange (x : Setup) : Bool :=
  decide (300 ≤ x.emptyDistance ∧ x.emptyDistance ≤ 4000) &&
  decide (100 ≤ x.fullDistance ∧ x.fullDistance + 200 ≤ x.emptyDistance) &&
  decide (x.perWeight ≤ 255) &&
  decide (1 ≤ x.alpha ∧ x.alpha ≤ 16) &&
  decide (1 ≤ x.confirmations ∧ x.confirmations ≤ 4) &&
  decide (1 ≤ x.tNotice ∧ x.tNotice ≤ x.tFull ∧ x.tFull ≤ x.tLock ∧ x.tLock ≤ 1000) &&
  decide (x.hysteresis ≤ 100) &&
  decide (x.tEmpty < x.tNotice)

/-- The presence byte and the passage mode byte of a CONTAINER_SETUP set no bit that their layouts leave out (R185, offset 55 of R49;
DEDUCED that such a bit is refused, assumption 14, unsafe). -/
def setupBytesFit (ps : List Byte) : Bool :=
  let p := byteAt ps 1
  !bitOf p 7 && (!bitOf p 6 || decide (byteAt ps 18 < 64))

/-! ### The POLL reply (R14) -/

/-- An echo result: NO_ECHO, or a distance and a quality. -/
inductive Echo where
  | noEcho
  | heard (distance quality : Nat)
  deriving DecidableEq, Repr

/-- What one slot block reports. -/
structure SlotReport where
  contacts : PerContact Bool
  card : Option CardId
  echo : Option Echo
  deriving DecidableEq, Repr

/-- What a valid POLL reply reports. -/
structure PollReport where
  revision : Byte
  inputs : PerInput Bool
  slots : List SlotReport
  deriving DecidableEq, Repr

/-- The card part of a slot block: 7 bytes when the card bit is set. -/
def readCard (flags : Nat) (bs : List Byte) : Option (Option CardId × List Byte) :=
  if bitOf flags 5 then
    if 7 ≤ bs.length then some (some (cardIdAt bs 0), bs.drop 7) else none
  else some (none, bs)

/-- The echo part of a slot block (R14): NO_ECHO stands only with the echo bit, a distance is at most 4095 and a quality at most 15. -/
def readEcho (flags : Nat) (bs : List Byte) : Option (Option Echo × List Byte) :=
  match bitOf flags 6, bitOf flags 7 with
  | false, false => some (none, bs)
  | false, true => none
  | true, true => some (some .noEcho, bs)
  | true, false =>
    match bs with
    | d1 :: d0 :: q :: rest =>
      if numberOf [d1, d0] ≤ 4095 ∧ q.toNat ≤ 15 then some (some (.heard (numberOf [d1, d0]) q.toNat), rest) else none
    | _ => none

/-- The slot blocks of a reply body; every byte of the body belongs to one of them. -/
def readSlots : Nat → List Byte → Option (List SlotReport)
  | 0, [] => some []
  | 0, _ :: _ => none
  | _ + 1, [] => none
  | n + 1, flags :: bs =>
    match readCard flags.toNat bs with
    | none => none
    | some (card, bs') =>
      match readEcho flags.toNat bs' with
      | none => none
      | some (echo, rest) =>
        match readSlots n rest with
        | none => none
        | some slots => some ({ contacts := contactBits flags.toNat 0, card := card, echo := echo } :: slots)

/-- A reply body for a station with this many slots. -/
def readBody (slotCount : Nat) : List Byte → Option PollReport
  | revision :: inputs :: count :: blocks =>
    if inputs.toNat < 8 ∧ count.toNat = slotCount then
      match readSlots slotCount blocks with
      | none => none
      | some slots =>
        some { revision := revision
               inputs := { door := bitOf inputs.toNat 0, flood := bitOf inputs.toNat 1, aux := bitOf inputs.toNat 2 }
               slots := slots }
    else none
  | _ => none

/-- The bytes from the node address to the check byte sum to 0 modulo 256 (R10). -/
def sumsToZero (bs : List Byte) : Bool := bs.foldl (· + ·) (0 : Byte) == 0

/-- A station bus frame: start byte, address, kind, length, body and a check byte that makes the sum 0 (R10). -/
def busFrame (node kind : Nat) (body : List Byte) : List Byte :=
  let inner := byteOf node :: byteOf kind :: byteOf body.length :: body
  0x5A :: inner ++ [0 - inner.foldl (· + ·) (0 : Byte)]

/-- The reply of the node at this address with this many slots, if the bytes are a valid one (R14; the gap between bytes is the
business of BUS_BYTE_GAP_TIMEOUT). -/
def readReply (node slotCount : Nat) : List Byte → Option PollReport
  | start :: addr :: kind :: len :: rest =>
    if start = 0x5A ∧ addr.toNat = node ∧ kind = 0x83 ∧ rest.length = len.toNat + 1 ∧ sumsToZero (addr :: kind :: len :: rest) = true then
      readBody slotCount (rest.take len.toNat)
    else none
  | _ => none

end Sys2Proof.Machine
end

