-- ==== Sys2Proof/Machine/Flags.lean ====
section
/-!
DEFINITION. The pending flags (R170): their byte layouts (R49, R171) and their clearing. The WZC64 has no arithmetic flags.
-/
namespace Sys2Proof.Machine

/-- The flags of a container in the bit order of offset 38 (R49). -/
def ContainerFlags.bits (f : ContainerFlags) : List Bool :=
  [f.passNotice, f.passFull, f.passLock, f.overfill, f.sensorFault, f.hatchHeldOpen, f.actuatorFault, f.integrity]

/-- Offset 38 of the container status record (R49). -/
def ContainerFlags.byte (f : ContainerFlags) : Byte := byteOf (ofBits f.bits)

/-- Clear the selected flags, the selection being in the bit order of offset 38 (R171). -/
def ContainerFlags.clearSelected (selection : Nat) (f : ContainerFlags) : ContainerFlags where
  passNotice := f.passNotice && !bitOf selection 0
  passFull := f.passFull && !bitOf selection 1
  passLock := f.passLock && !bitOf selection 2
  overfill := f.overfill && !bitOf selection 3
  sensorFault := f.sensorFault && !bitOf selection 4
  hatchHeldOpen := f.hatchHeldOpen && !bitOf selection 5
  actuatorFault := f.actuatorFault && !bitOf selection 6
  integrity := f.integrity && !bitOf selection 7

/-- Set the passage flag of threshold `k` (R59). -/
def ContainerFlags.setPassage (k : Nat) (f : ContainerFlags) : ContainerFlags :=
  match k with
  | 1 => { f with passNotice := true }
  | 2 => { f with passFull := true }
  | _ => { f with passLock := true }

/-- Clear the three passage flags (R26, R59). -/
def ContainerFlags.clearPassages (f : ContainerFlags) : ContainerFlags :=
  { f with passNotice := false, passFull := false, passLock := false }

/-- The flags of a station, DOOR in bit 0 (R171). -/
def StationFlags.bits (f : StationFlags) : List Bool := [f.door, f.flood, f.aux, f.offline]

/-- The flags of a station in one byte (R171), its upper bits 0 (DESIGN CHOICE, assumption 41, unsafe). -/
def StationFlags.byte (f : StationFlags) : Byte := byteOf (ofBits f.bits)

/-- Clear the selected flags of a station (R171). -/
def StationFlags.clearSelected (selection : Nat) (f : StationFlags) : StationFlags where
  door := f.door && !bitOf selection 0
  flood := f.flood && !bitOf selection 1
  aux := f.aux && !bitOf selection 2
  offline := f.offline && !bitOf selection 3

end Sys2Proof.Machine
end

