-- ==== Sys2Proof/Machine/Ops.lean ====
section
/-!
DEFINITION. The named operations over the state that every block uses: reading and changing a station, a container, an operation, a card;
the output image (R12); posting to the report queue (R175, R176); replies and the tests of a request (R182 to R184).
-/
namespace Sys2Proof.Machine

/-! ### Stations and containers (R1) -/

/-- The record of station `t`, if it is defined. -/
def State.station? (s : State) (t : Nat) : Option Station := (s.stations[t]?).join

/-- Change a defined station. -/
def State.updStation (t : Nat) (f : Station → Station) (s : State) : State :=
  { s with stations := s.stations.modify t (Option.map f) }

/-- Define station `t` or make it not defined. -/
def State.setStation (t : Nat) (o : Option Station) (s : State) : State := { s with stations := s.stations.set t o }

/-- The container with number `c`, if it is in use (R1). -/
def State.container? (s : State) (c : Nat) : Option Container :=
  match s.station? (c / 4) with
  | some st => st.slots[c % 4]?
  | none => none

/-- Change a container in use. -/
def State.updContainer (c : Nat) (f : Container → Container) (s : State) : State :=
  s.updStation (c / 4) fun st => { st with slots := st.slots.modify (c % 4) f }

/-- Change the estimator record of a container in use. -/
def State.updEst (c : Nat) (f : Estimator → Estimator) (s : State) : State := s.updContainer c fun k => { k with est := f k.est }

/-- Change the pending flags of a container in use. -/
def State.updFlags (c : Nat) (f : ContainerFlags → ContainerFlags) (s : State) : State :=
  s.updContainer c fun k => { k with flags := f k.flags }

/-- The numbers of the containers in use at station `t`, ascending. -/
def State.containersAt (s : State) (t : Nat) : List Nat :=
  match s.station? t with
  | some st => (List.range st.slots.length).map fun i => 4 * t + i
  | none => []

/-- The numbers of the defined stations, ascending. -/
def State.definedStations (s : State) : List Nat := (List.range s.stations.length).filter fun t => (s.station? t).isSome

/-- The numbers of all containers in use, ascending. -/
def State.containersInUse (s : State) : List Nat := s.definedStations.flatMap s.containersAt

/-- The station of a container is ONLINE. -/
def State.onlineAt (s : State) (c : Nat) : Bool :=
  match s.station? (c / 4) with
  | some st => st.online
  | none => false

/-- Run a change for each number of a list, in order. -/
def forEach (ns : List Nat) (f : Nat → State → State) (s : State) : State := ns.foldl (fun s n => f n s) s

/-- R1 for a container number of a request: above 63 RANGE, not in use NOT_FOUND. -/
def State.checkContainer (s : State) (c : Nat) : Option ResultCode :=
  if 63 < c then some .range else if (s.container? c).isNone then some .notFound else none

/-- R1 for a station number of a request: above 15 RANGE, not defined NOT_FOUND. -/
def State.checkStation (s : State) (t : Nat) : Option ResultCode :=
  if 15 < t then some .range else if (s.station? t).isNone then some .notFound else none

/-! ### Operations in the four slots (R129) -/

/-- The operation of container `c`. -/
def State.opOf (s : State) (c : Nat) : Option Operation := (s.ops.filterMap id).find? fun op => op.container == c

/-- The phase of container `c`'s operation. -/
def State.phaseOf (s : State) (c : Nat) : Option Phase := (s.opOf c).map Operation.phase

/-- The container has an operation in one of the phases in which it holds its station's crane position (R132). -/
def Phase.holdsCrane : Phase → Bool
  | .pending => false
  | .unlatched => true
  | .lifted => true
  | .returned => true

/-- Another container of the station of `c` has an operation in UNLATCHED, LIFTED or RETURNED (R130, R134). -/
def State.craneTaken (s : State) (c : Nat) : Bool :=
  (s.ops.filterMap id).any fun op => op.container != c && op.container / 4 == c / 4 && op.phase.holdsCrane

/-- Change the record of container `c`'s operation. -/
def State.updOp (c : Nat) (f : Operation → Operation) (s : State) : State :=
  { s with ops := s.ops.map (Option.map fun op => if op.container == c then f op else op) }

/-! ### The directory -/

/-- The record of a card (R66). -/
def State.card? (s : State) (id : CardId) : Option Card := s.directory.cards.find? fun r => r.id == id

/-- Change the directory block. -/
def State.updDirectory (f : Directory → Directory) (s : State) : State := { s with directory := f s.directory }

/-- Change the record of a card, if it exists. -/
def State.updCard (id : CardId) (f : Card → Card) (s : State) : State :=
  s.updDirectory fun d => { d with cards := d.cards.map fun r => if r.id == id then f r else r }

/-- The quota period number (R8), computed at each use. -/
def State.currentPeriod (s : State) : Nat := s.clock.day / s.directory.periodLength

/-! ### The output image (R12) -/

/-- Change the outputs of one slot; a change that alters the image advances the output revision by one, wrapping at 255 (R12). -/
def Station.changeImage (slot : Nat) (f : Outputs → Outputs) (st : Station) : Station :=
  match st.slots[slot]? with
  | none => st
  | some k =>
    if f k.outputs = k.outputs then st
    else { st with slots := st.slots.modify slot fun k => { k with outputs := f k.outputs }, revision := st.revision + 1 }

/-- A change request to the output image at container `c` (R12). -/
def State.changeImage (c : Nat) (f : Outputs → Outputs) (s : State) : State := s.updStation (c / 4) (Station.changeImage (c % 4) f)

/-- Set the lock output. -/
def State.setLock (c : Nat) (o : Output) (s : State) : State := s.changeImage c fun x => { x with lock := o }

/-- Set the latch output. -/
def State.setLatch (c : Nat) (o : Output) (s : State) : State := s.changeImage c fun x => { x with latch := o }

/-- A lamp showing: the value goes into the image and the 3 s hold starts afresh (R21). -/
def State.showLamp (c : Nat) (l : Lamp) (s : State) : State :=
  (s.changeImage c fun x => { x with lamp := l }).updContainer c fun k => { k with lampHold := some Config.lampHold }

/-! ### The report queue (R172 to R178) -/

/-- The binding of a class (R172). -/
def State.bindingOf (s : State) (cls : EventClass) : Binding :=
  (s.bindings[cls.code - 1]?).getD { enabled := true, priority := 0, action := .none }

/-- An event as raised now: the binding values in force and the clock's value (R172, R174). -/
def State.event (cls : EventClass) (station container : Option Nat) (body : EventBody) (s : State) : Event where
  cls := cls
  enabled := (s.bindingOf cls).enabled
  priority := (s.bindingOf cls).priority
  day := s.clock.day
  second := s.clock.second
  station := station
  container := container
  body := body

/-- Enter a record after every record of its own and higher priorities and before every one of lower priority (R175). -/
def enterRecord (r : Record) : List Record → List Record
  | [] => [r]
  | x :: xs => if x.event.priority < r.event.priority then r :: x :: xs else x :: enterRecord r xs

/-- The lowest priority present (R176); 7, the highest there is, for no record. -/
def lowestPriority : List Record → Nat
  | [] => 7
  | x :: xs => min x.event.priority (lowestPriority xs)

/-- ATTN is asserted while some record's priority is at or above the attention level (R178). -/
def attnFor (level : Nat) (queue : List Record) : Bool := queue.any fun r => decide (level ≤ r.event.priority)

/-- The queue after an enabled event's record reaches it: entered, entered in place of the earliest record of the lowest priority, or
discarded (R175, R176). -/
def Report.take (r : Record) (q : Report) : Report :=
  if q.queue.length < Config.maxEvents then { q with queue := enterRecord r q.queue }
  else
    let low := lowestPriority q.queue
    if low < r.event.priority then
      { q with queue := enterRecord r (q.queue.eraseP fun x => x.event.priority == low), overflowed := true }
    else { q with overflowed := true }

/-- ATTN follows the queue (R178). -/
def Report.withAttn (level : Nat) (q : Report) : Report := { q with attn := attnFor level q.queue }

/-- A posting (R175): a disabled class is dropped and nothing changes; an enabled one takes the next sequence number. -/
def Report.post (level : Nat) (e : Event) (result : ActionResult) (notEngaged : BitVec 4) (q : Report) : Report :=
  if e.enabled then
    (Report.take { event := e, result := result, notEngaged := notEngaged, seq := q.nextSeq }
      { q with nextSeq := q.nextSeq + 1 }).withAttn level
  else q

/-- Post an event with its action result (R169, R175). -/
def State.postResult (e : Event) (result : ActionResult) (notEngaged : BitVec 4) (s : State) : State :=
  { s with report := s.report.post s.tuning.attention e result notEngaged }

/-- Post an event of a class without an action (R169, R175). -/
def State.post (cls : EventClass) (station container : Option Nat) (body : EventBody) (s : State) : State :=
  s.postResult (s.event cls station container body) .none 0

/-- Post an event of container scope. -/
def State.postAt (cls : EventClass) (c : Nat) (body : EventBody) (s : State) : State := s.post cls (some (c / 4)) (some c) body

/-! ### Ports, replies and the tests of a request (section 10.1) -/

/-- The state of a port. -/
def State.port (s : State) : Port → PortState
  | .gateway => s.gateway
  | .service => s.service

/-- Change a port. -/
def State.updPort (p : Port) (f : PortState → PortState) (s : State) : State :=
  match p with
  | .gateway => { s with gateway := f s.gateway }
  | .service => { s with service := f s.service }

/-- Change the gate of the service port. -/
def State.updGrant (f : Grant → Grant) (s : State) : State := { s with grant := f s.grant }

/-- A port's receiver is idle after a frame, taken, discarded or abandoned (R181). -/
def State.receiverIdle (p : Port) (s : State) : State := s.updPort p fun q => { q with receiver := .idle }

/-- Discard a port's segment remainder (R184). -/
def State.dropRemainder (p : Port) (s : State) : State := s.updPort p fun q => { q with remainder := none }

/-- Send a reply, or its first segment when its data are longer than 236 bytes, keeping the rest as the port's remainder (R180, R184). -/
def PortState.send (kind : Byte) (code : ResultCode) (data : List Byte) (q : PortState) : PortState :=
  if data.length ≤ Config.maxData then { q with reply := some (frameOf (kind :: code.value :: 0 :: data)) }
  else
    { q with
      reply := some (frameOf (kind :: code.value :: 1 :: data.take Config.maxData))
      remainder := some { kind := kind, code := code, rest := data.drop Config.maxData } }

/-- Send a reply on a port. -/
def State.reply (p : Port) (kind : Byte) (code : ResultCode) (data : List Byte) (s : State) : State :=
  s.updPort p (PortState.send kind code data)

/-- The tests of R182 after the check byte, in the order of its table. -/
def State.refusal (p : Port) (kind : Byte) (params : List Byte) (s : State) : Option ResultCode :=
  if p = .service ∧ s.grant.state = .barred then some .barred
  else if p = .service ∧ s.grant.state ≠ .granted ∧ kind ≠ 1 ∧ kind ≠ 19 then some .denied
  else
    match requestRule kind with
    | none => some .kind
    | some r =>
      if r.fits params = false then some .length
      else if r.onPort p = false then some .port
      else if r.inMode s.mode = false then some .mode
      else none

/-- The inactivity timer of a GRANTED service port restarts at a frame with a good check byte that is taken as a request (R194). -/
def State.noteActivity (p : Port) (s : State) : State :=
  if p = .service ∧ s.grant.state = .granted then s.updGrant fun g => { g with inactivity := some Config.inactivityTime } else s

/-- The completion of a frame taken as a request (R181 to R184): a busy port discards it; otherwise the port becomes busy, the tests are
made in order, and a request that passes them is handed to its owner (`owner`). Any request but CONTINUE (kind 7) whose check byte is right discards
the remainder first; a CONTINUE does so when it is refused. That a busy port discards the frame is R183's own rule, whatever row carries it (DEDUCED,
assumption 6, safe). -/
def State.takeRequest (p : Port) (kind : Byte) (f : Frame) (owner : State → State) (s : State) : State :=
  if (s.port p).busy then s.receiverIdle p
  else
    let s := s.updPort p fun q => { q with receiver := .idle, busy := true }
    if frameChecks kind f = false then s.reply p kind .check []
    else
      let s := s.noteActivity p
      match s.refusal p kind f.params with
      | some code => (s.dropRemainder p).reply p kind code []
      | none => owner (if kind = 7 then s else s.dropRemainder p)

/-- A request that names one container in its first parameter byte, checked as R1 states. -/
def State.onContainer (p : Port) (kind : Byte) (params : List Byte) (owner : Nat → Container → State → State) (s : State) : State :=
  match s.checkContainer (byteAt params 0), s.container? (byteAt params 0) with
  | none, some k => owner (byteAt params 0) k s
  | some code, _ => s.reply p kind code []
  | none, none => s.reply p kind .notFound []

end Sys2Proof.Machine
end

