-- ==== Sys2Proof/Machine/Directory.lean ====
section
/-!
DEFINITION. The card directory and the watch list (chapter 4): lazy rollover, reservations, commits, returns, record steps, cursors,
the record's 19 bytes, and the watch list's answer.
-/
namespace Sys2Proof.Machine

/-! ### Usage (R70 to R73) -/

/-- The lazy rollover against the current period number (R70). -/
def Card.rollover (now : Nat) (r : Card) : Card := if r.period = now then r else { r with used := 0, period := now }

/-- The tests of a reservation request on the record after its rollover (R71): MULTIPLE, then QUOTA. -/
def Card.reserveRefusal (w : Nat) (r : Card) : Option RefusalCode :=
  if 4 < r.reserved + w then some .multiple
  else if r.allowance < 255 ∧ r.allowance < r.used + r.reserved + w then some .quota
  else none

/-- A reservation request (R71): the rollover always, the weight held when the tests pass. -/
def Card.reserve (now w : Nat) (r : Card) : Card :=
  let r := r.rollover now
  match r.reserveRefusal w with
  | none => { r with reserved := r.reserved + w }
  | some _ => r

/-- A commit (R72): the rollover, the charge for a charged fraction saturating at 254, and the weight released. -/
def Card.commit (now w : Nat) (charged : Bool) (r : Card) : Card :=
  let r := r.rollover now
  { r with used := if charged then min 254 (r.used + w) else r.used, reserved := r.reserved - w }

/-- A return (R73): the weight released, no rollover. -/
def Card.giveBack (w : Nat) (r : Card) : Card := { r with reserved := r.reserved - w }

/-- A commit handed to the directory (R72). -/
def State.commit (a : Admission) (s : State) : State := s.updCard a.card (Card.commit s.currentPeriod a.weight a.charged)

/-- A return handed to the directory (R73). -/
def State.giveBack (a : Admission) (s : State) : State := s.updCard a.card (Card.giveBack a.weight)

/-! ### Record steps (R76, R77) -/

/-- Put a record in its place in id order, replacing one with its id (R65, R76). -/
def insertCard (r : Card) : List Card → List Card
  | [] => [r]
  | x :: xs => if r.id < x.id then r :: x :: xs else if x.id = r.id then r :: xs else x :: insertCard r xs

/-- The field tests of a CARD_PUT record: the first case of the table of R76. -/
def CardForm.fieldsBad (x : CardForm) : Bool :=
  decide (x.classCode = 3) || x.reservedBits || decide (32 ≤ x.fractionByte.toNat) ||
  (x.setUsage && decide (254 < x.used)) ||
  (x.hasWeight && (decide (x.weight < 1) || decide (4 < x.weight))) ||
  (!x.hasExpiry && decide (x.expiry ≠ 0)) ||
  (!x.hasWeight && decide (x.weight ≠ 0))

/-- The class that a form's class code names; a code 3 has been refused by then. -/
def CardForm.cls (x : CardForm) : CardClass := (cardClassOfCode x.classCode).getD .resident

/-- The record a form makes, over the usage fields given: a CREW record holds no weight (R65, R76). -/
def CardForm.record (x : CardForm) (used reserved period : Nat) : Card where
  id := x.id
  cls := x.cls
  suspended := x.suspended
  home := x.home
  fractions := x.fractionByte.setWidth 5
  allowance := x.allowance
  used := used
  reserved := reserved
  period := period
  expiry := if x.hasExpiry then some x.expiry else none
  weight := if x.hasWeight ∧ x.cls ≠ .crew then some x.weight else none

/-- The result of one CARD_PUT record step (R76). -/
def putResult (x : CardForm) (cards : List Card) : ResultCode :=
  let stored := cards.find? fun r => r.id == x.id
  let used := if x.setUsage then x.used else (stored.map Card.used).getD 0
  let reserved := (stored.map Card.reserved).getD 0
  if x.fieldsBad then .range
  else if stored.isNone ∧ Config.maxCards ≤ cards.length then .full
  else if x.allowance < 255 ∧ x.allowance < used + reserved then .range
  else .ok

/-- The directory after one CARD_PUT record step, the current period number being `now` (R76). -/
def putCards (now : Nat) (x : CardForm) (cards : List Card) : List Card :=
  if putResult x cards = .ok then
    match cards.find? fun r => r.id == x.id with
    | none => insertCard (x.record (if x.setUsage then x.used else 0) 0 now) cards
    | some r =>
      insertCard (x.record (if x.setUsage then x.used else r.used) r.reserved (if x.setUsage then now else r.period)) cards
  else cards

/-- The result of one CARD_DELETE record step (R77). -/
def deleteResult (id : CardId) (cards : List Card) : ResultCode :=
  match cards.find? fun r => r.id == id with
  | none => .notFound
  | some r => if 0 < r.reserved then .held else .ok

/-- The directory after one CARD_DELETE record step (R77). -/
def deleteCards (id : CardId) (cards : List Card) : List Card :=
  if deleteResult id cards = .ok then cards.filter fun r => r.id != id else cards

/-! ### Reading (R81 to R83) -/

/-- The port's cursor (R81). -/
def Directory.cursor (d : Directory) : Port → Option CardId
  | .gateway => d.cursorGateway
  | .service => d.cursorService

/-- Move the port's cursor (R81). -/
def Directory.setCursor (p : Port) (c : Option CardId) (d : Directory) : Directory :=
  match p with
  | .gateway => { d with cursorGateway := c }
  | .service => { d with cursorService := c }

/-- An id is greater than a cursor; "before first" lies below every id (R81). -/
def aboveCursor (cursor : Option CardId) (id : CardId) : Bool :=
  match cursor with
  | none => true
  | some c => decide (c < id)

/-- Up to `n` records above the port's cursor, in ascending id order (R83). -/
def Directory.nextCards (p : Port) (n : Nat) (d : Directory) : List Card :=
  (d.cards.filter fun r => aboveCursor (d.cursor p) r.id).take n

/-- An edit started from the other port is in flight (R79). -/
def Directory.editElsewhere (p : Port) (d : Directory) : Bool :=
  match d.edit with
  | some e => e.port != p
  | none => false

/-- The flags byte of a returned record; its set usage bit is 0 (section 4.1). -/
def Card.flagsByte (r : Card) : Byte :=
  byteOf (r.cls.code + 4 * ofBits [r.suspended, r.expiry.isSome, r.weight.isSome])

/-- A card record as the ports carry it (section 4.1). -/
def Card.bytes (r : Card) : List Byte :=
  bytesOf 7 r.id.toNat ++ [r.flagsByte] ++ bytesOf 2 r.home.toNat ++ [byteOf r.fractions.toNat, byteOf r.allowance, byteOf r.used, byteOf r.reserved] ++
    bytesOf 2 r.period ++ bytesOf 2 (r.expiry.getD 0) ++ [byteOf (r.weight.getD 0)]

/-! ### The watch list (R84 to R87) -/

/-- The action of the entry with this id (R87). -/
def State.watchAction (s : State) (id : CardId) : Option WatchAction :=
  (s.watch.find? fun e => e.id == id).map WatchEntry.action

/-- The result of WATCH_SET (R85). -/
def watchSetResult (id : CardId) (es : List WatchEntry) : ResultCode :=
  if es.any fun e => e.id == id then .ok else if Config.maxWatch ≤ es.length then .full else .ok

/-- The watch list after WATCH_SET (R85). -/
def watchSetEntries (id : CardId) (a : WatchAction) (es : List WatchEntry) : List WatchEntry :=
  if es.any fun e => e.id == id then es.map fun e => if e.id == id then { e with action := a } else e
  else if Config.maxWatch ≤ es.length then es
  else es ++ [{ id := id, action := a }]

/-- A watch entry as WATCH_LIST returns it (R86). -/
def WatchEntry.bytes (e : WatchEntry) : List Byte := bytesOf 7 e.id.toNat ++ [byteOf e.action.code]

end Sys2Proof.Machine
end

