-- ==== Sys2Proof/Machine/Collection.lean ====
section
/-!
DEFINITION. The collection list (chapter 6): its order, insertion, downgrade and removal, the forecast evaluation, claims, and what an
emptying outcome does to an entry.
-/
namespace Sys2Proof.Machine

/-! ### Order (R114) -/

/-- The sort key of an entry: urgency, H, entered day, entered second, container (R114). -/
def Entry.key (e : Entry) : List Nat := [e.reason.code, e.forecast, e.day, e.second, e.container]

/-- Lexicographic comparison of two keys. -/
def keyBefore : List Nat → List Nat → Bool
  | x :: xs, y :: ys => decide (x < y) || (decide (x = y) && keyBefore xs ys)
  | _, _ => false

/-- The first entry stands before the second in list order (R114). -/
def Entry.before (a b : Entry) : Bool := keyBefore a.key b.key

/-- Put an entry in its place under the key. -/
def insertEntry (e : Entry) : List Entry → List Entry
  | [] => [e]
  | x :: xs => if e.before x then e :: x :: xs else x :: insertEntry e xs

/-- Put a container's entry in its place, in place of the one it had; the others keep their order (R114). -/
def placeEntry (e : Entry) (l : List Entry) : List Entry := insertEntry e (l.filter fun x => x.container != e.container)

/-- The entry of a container. -/
def State.entry? (s : State) (c : Nat) : Option Entry := s.collection.find? fun e => e.container == c

/-- Change the collection list. -/
def State.updCollection (f : List Entry → List Entry) (s : State) : State := { s with collection := f s.collection }

/-- Put an entry in its place in the list (R114). -/
def State.place (e : Entry) (s : State) : State := s.updCollection (placeEntry e)

/-- Remove a container's entry; nothing is posted (R123). -/
def State.unlist (c : Nat) (s : State) : State := s.updCollection fun l => l.filter fun e => e.container != c

/-- The container's forecast as the estimator holds it (R115). -/
def State.forecastOf (s : State) (c : Nat) : Nat := ((s.container? c).map fun k => k.est.forecast).getD 255

/-- The container's reported level. -/
def State.levelOf (s : State) (c : Nat) : Nat := ((s.container? c).map fun k => k.est.level).getD 0

/-- Post LIST_ENTRY for an entry as it now stands (R123). -/
def State.postListEntry (e : Entry) (previous : Option Reason) (s : State) : State :=
  s.postAt .listEntry e.container (.listEntry e.reason previous e.claimed e.forecast (s.levelOf e.container))

/-! ### Requests -/

/-- An insertion request (R115). -/
def State.insertionRequest (c : Nat) (x : Reason) (h : Nat) (s : State) : State :=
  match s.entry? c with
  | none =>
    let e : Entry :=
      { container := c, reason := x, claimed := false, day := s.clock.day, second := s.clock.second, forecast := h }
    (s.place e).postListEntry e none
  | some e =>
    if x.code < e.reason.code then
      (s.place { e with reason := x, forecast := h }).postListEntry { e with reason := x, forecast := h } (some e.reason)
    else s.place { e with forecast := h }

/-- What an insertion request does to the entry, for the reply of LIST_ADD (R120). -/
def State.insertionEffect (c : Nat) (x : Reason) (s : State) : ReplyCode :=
  match s.entry? c with
  | none => .entryInserted
  | some e => if x.code < e.reason.code then .entryRaised else .entryLeft

/-- A downgrade request of a band change (R116, R117). -/
def State.downgradeRequest (c h : Nat) (s : State) : State :=
  match s.entry? c with
  | none => s
  | some e =>
    if e.reason = .lockout then
      (s.place { e with reason := .full, forecast := h }).postListEntry { e with reason := .full, forecast := h } (some .lockout)
    else s.place { e with forecast := h }

/-- A removal request of a band change (R116, R117). -/
def State.removalRequest (c h : Nat) (s : State) : State :=
  match s.entry? c with
  | none => s
  | some e => if e.reason = .full ∧ e.claimed = false then s.unlist c else s.place { e with forecast := h }

/-- The requests of a change from one band to another, in order (R61). -/
def State.bandRequests (c : Nat) (old : Option Band) (new : Band) (h : Nat) (s : State) : State :=
  let s := if old = some .lockout ∧ new ≠ .lockout then s.downgradeRequest c h else s
  let s := if (old = some .full ∨ old = some .lockout) ∧ new.number < 2 then s.removalRequest c h else s
  let s := if new = .full then s.insertionRequest c .full h else s
  if new = .lockout then s.insertionRequest c .lockout h else s

/-- A forecast evaluation (R118). -/
def State.forecastEvaluation (c h : Nat) (s : State) : State :=
  match s.entry? c with
  | none => if 0 < s.tuning.horizon ∧ h ≤ s.tuning.horizon then s.insertionRequest c .forecast h else s
  | some e =>
    if e.reason = .forecast ∧ e.claimed = false ∧ s.tuning.horizon < h then s.unlist c
    else s.place { e with forecast := h }

/-- A claim is counted in the round record, stopping at 65535 (R124). -/
def State.countClaim (s : State) : State :=
  { s with round := s.round.map fun r => { r with claims := min 65535 (r.claims + 1) } }

/-- Claim the entry of a container that is LISTED (R125, R126). -/
def State.claimEntry (c : Nat) (s : State) : State :=
  match s.entry? c with
  | some e => if e.claimed then s else (s.place { e with claimed := true }).countClaim
  | none => s

/-- A claim request (R126). -/
def State.claimRequest (c : Nat) (s : State) : State :=
  match s.entry? c with
  | none => (s.insertionRequest c .host (s.forecastOf c)).claimEntry c
  | some _ => s.claimEntry c

/-- An outcome sets a reason directly and releases the entry; LIST_ENTRY is posted if the reason changed (R119). -/
def State.releaseWith (c : Nat) (x : Reason) (s : State) : State :=
  match s.entry? c with
  | none => s
  | some e =>
    let e' : Entry := { e with reason := x, claimed := false }
    if e.reason = x then s.place e' else (s.place e').postListEntry e' (some e.reason)

/-- What an emptying outcome does to the entry (R119). -/
def State.listOutcome (c : Nat) (o : LiftOutcome) (s : State) : State :=
  match o with
  | .emptied => s.unlist c
  | .partialLift => s.releaseWith c .partialLift
  | .abandoned => s
  | .fault => s.releaseWith c .inspection

/-- Every CLAIMED entry becomes LISTED; the claim state is not part of the key (R113, R127). -/
def State.releaseClaims (s : State) : State := s.updCollection fun l => l.map fun e => { e with claimed := false }

end Sys2Proof.Machine
end

