-- ==== Sys2Proof/Machine/Monitor.lean ====
section
/-!
DEFINITION. The integrity monitor (chapter 8): the expected pattern, exclusions and matching, settle windows, confirmation parts and the
completion of bound actions.
-/
namespace Sys2Proof.Machine

/-! ### The expected pattern (R153) -/

/-- The expected value of each contact, `none` for excluded. The first situation that applies decides (R153). -/
def expectedPattern (phase : Option Phase) (h : HatchRecord) : PerContact (Option Bool) :=
  match phase with
  | some .lifted => .all none
  | some .unlatched => { hc := some true, hl := some true, ll := some false, se := none, pd := none }
  | some .returned => .all (some true)
  | _ =>
    match h.force, h.state with
    | .release, _ => { hc := none, hl := some false, ll := some true, se := some true, pd := some true }
    | _, .opened => { hc := some false, hl := some false, ll := some true, se := some true, pd := some true }
    | _, .released => { hc := some true, hl := some false, ll := some true, se := some true, pd := some true }
    | _, .locked => .all (some true)

/-- The expected pattern of container `c` as things stand. -/
def State.pattern (s : State) (c : Nat) : PerContact (Option Bool) :=
  match s.container? c with
  | some k => expectedPattern (s.phaseOf c) k.hatch
  | none => .all none

/-! ### Matching (R155) -/

/-- A settle state that excludes its contact from comparison (R155). -/
def Settle.excludes : Settle → Bool
  | .included => false
  | .settling _ => true
  | .deferred => true
  | .faulted => true

/-- The settle states of a container, contact by contact; only HL and LL have one. -/
def Container.settleExcluded (k : Container) : PerContact Bool where
  hc := false
  hl := k.settleHL.excludes
  ll := k.settleLL.excludes
  se := false
  pd := false

/-- The value a contact is compared with; `none` when the contact is excluded (R155). -/
def Container.compared (pat : PerContact (Option Bool)) (k : Container) : PerContact (Option Bool) :=
  PerContact.zip (fun x y => if x then none else y) (PerContact.zip (· || ·) k.mask k.settleExcluded) pat

/-- The accepted value of every contact. -/
def Container.accepted (k : Container) : PerContact (Option Bool) := k.contacts.map Filter.accepted

/-- One contact matches: excluded, or accepted at the expected value (R155). -/
def contactMatches (expected accepted : Option Bool) : Bool :=
  match expected with
  | none => true
  | some v => accepted == some v

/-- One contact is a member of the mismatch set: not excluded, and accepted at another value (R155). -/
def contactMismatches (expected accepted : Option Bool) : Bool :=
  match expected, accepted with
  | some v, some a => a != v
  | _, _ => false

/-- Every contact of the container matches. -/
def Container.matched (pat : PerContact (Option Bool)) (k : Container) : Bool :=
  (PerContact.zip contactMatches (k.compared pat) k.accepted).toList.all id

/-- The container's members of the mismatch set. -/
def Container.mismatch (pat : PerContact (Option Bool)) (k : Container) : PerContact Bool :=
  PerContact.zip contactMismatches (k.compared pat) k.accepted

/-- Every contact of the station's containers matches (R155). -/
def State.stationMatched (s : State) (t : Nat) : Bool :=
  (s.containersAt t).all fun c =>
    match s.container? c with
    | some k => k.matched (s.pattern c)
    | none => true

/-- The containers of a station with a member in the mismatch set, with their mismatching contacts and the accepted values, in ascending
container number, the bits of the other contacts 0 (R156, R174; DESIGN CHOICE for that order and those bits, assumption 39, unsafe). -/
def State.breaches (s : State) (t : Nat) : List Breach :=
  (s.containersAt t).filterMap fun c =>
    match s.container? c with
    | some k =>
      let m := k.mismatch (s.pattern c)
      if m.any id then
        some { container := c, mismatch := m, accepted := PerContact.zip (fun x a => x && a == some true) m k.accepted }
      else none
    | none => none

/-- The status an evaluation gives (R155). -/
def statusFor (matched : Bool) : StationStatus := if matched then .armed else .unarmed

/-- A pattern-driven evaluation of a station that is not SUSPENDED (R157). -/
def State.evaluate (t : Nat) (s : State) : State :=
  s.updStation t fun st =>
    if st.status = .suspended then st else { st with status := statusFor (s.stationMatched t) }

/-- The station of container `c` is SUSPENDED, or not defined. -/
def State.suspendedAt (s : State) (c : Nat) : Bool :=
  match s.station? (c / 4) with
  | some st => st.status == .suspended
  | none => true

/-! ### Settle windows (R159) -/

/-- A settle window starts for a contact: INCLUDED at once when its accepted value already agrees, SETTLING otherwise (R159). -/
def startSettle (settleTime : Nat) (accepted : Option Bool) (expected : Bool) : Settle :=
  if accepted = some expected then .included else .settling settleTime

/-- What a change of the expected value does to a settle state (R159). -/
def Settle.onExpected (settleTime : Nat) (masked : Bool) (accepted old new : Option Bool) (x : Settle) : Settle :=
  if old = new then x
  else
    match new with
    | none => match x with
      | .settling _ => .included
      | y => y
    | some v => if masked then x else startSettle settleTime accepted v

/-- What the contacts of a reply do to a settle state: agreement ends a window or a fault; a first acceptance ends DEFERRED (R159, R160;
DEDUCED for a masked or excluded one, assumption 10, unsafe). -/
def Settle.onAccepted (settleTime : Nat) (masked : Bool) (accepted expected : Option Bool) (x : Settle) : Settle :=
  match x, accepted with
  | .included, _ => .included
  | y, none => y
  | .deferred, some a =>
    match expected with
    | some v => if masked then .included else startSettle settleTime (some a) v
    | none => .included
  | y, some a => if expected = some a then .included else y

/-- Cancel a window or a fault; DEFERRED stays (R158; DEDUCED for a contact that R154 masks, assumption 10, unsafe). -/
def Settle.cancel : Settle → Settle
  | .settling _ => .included
  | .faulted => .included
  | x => x

/-- A pattern change of container `c` from the old pattern: settle windows where an expected HL or LL changes, then the evaluation of the
station. Nothing of it while the station is SUSPENDED (R157, R159, R161). -/
def State.patternChange (c : Nat) (old : PerContact (Option Bool)) (s : State) : State :=
  if s.suspendedAt c then s
  else
    let new := s.pattern c
    let t := s.tuning.settleTime
    (s.updContainer c fun k =>
      { k with
        settleHL := k.settleHL.onExpected t k.mask.hl k.contacts.hl.accepted old.hl new.hl
        settleLL := k.settleLL.onExpected t k.mask.ll k.contacts.ll.accepted old.ll new.ll }).evaluate (c / 4)

/-- Make a change and take its pattern change at container `c` (R105, R129, R153). -/
def State.withPattern (c : Nat) (f : State → State) (s : State) : State := (f s).patternChange c (s.pattern c)

/-- The monitor takes the contacts of container `c` that a reply has just given (R159, R160). -/
def State.settleContacts (c : Nat) (s : State) : State :=
  if s.suspendedAt c then s
  else
    let pat := s.pattern c
    let t := s.tuning.settleTime
    s.updContainer c fun k =>
      { k with
        settleHL := k.settleHL.onAccepted t k.mask.hl k.contacts.hl.accepted pat.hl
        settleLL := k.settleLL.onAccepted t k.mask.ll k.contacts.ll.accepted pat.ll }

/-! ### Confirmation parts and the completion of actions (R168, R169) -/

/-- A part has ended. -/
def PartState.ended : PartState → Bool
  | .waiting => false
  | .window _ => false
  | .confirmed => true
  | .notEngaged => true

/-- A part ends not engaged unless it has ended already. -/
def PartState.giveUp : PartState → PartState
  | .confirmed => .confirmed
  | _ => .notEngaged

/-- Every part has ended. -/
def HeldAction.complete (a : HeldAction) : Bool := a.parts.all fun p => p.state.ended

/-- DONE when every part was confirmed, PARTIAL otherwise (R169). -/
def HeldAction.result (a : HeldAction) : ActionResult :=
  if a.parts.all fun p => p.state == .confirmed then .done else .incomplete

/-- The slots whose part ended not engaged (R174). -/
def HeldAction.notEngaged (a : HeldAction) : BitVec 4 :=
  a.parts.foldl (fun m p => if p.state = .notEngaged then m ||| (1 <<< (p.container % 4)) else m) 0

/-- Post the held event of a completed action (R169). -/
def State.postHeld (a : HeldAction) (s : State) : State := s.postResult a.event a.result a.notEngaged

/-- Post the events of the actions that are complete, oldest first, and keep the others in flight (R169; the order is a DESIGN CHOICE, assumption 13,
unsafe). -/
def State.completeActions (s : State) : State :=
  (s.actions.filter HeldAction.complete).foldl (fun s a => s.postHeld a)
    { s with actions := s.actions.filter fun a => !a.complete }

/-- Change the part of container `c` in an action. -/
def HeldAction.updPart (c : Nat) (f : PartState → PartState) (a : HeldAction) : HeldAction :=
  { a with parts := a.parts.map fun p => if p.container == c then { p with state := f p.state } else p }

/-- Change the parts of container `c` and complete the actions whose last part has ended. -/
def State.updParts (c : Nat) (f : PartState → PartState) (s : State) : State :=
  State.completeActions { s with actions := s.actions.map (HeldAction.updPart c f) }

/-- A part is confirmed when the hatch is LOCKED and HL is accepted at 1 or masked (R168). -/
def Container.confirms (k : Container) : Bool :=
  k.hatch.state == .locked && (k.contacts.hl.accepted == some true || k.mask.hl)

/-- A part as the container's hatch and HL now stand: the close of the hatch starts the window, agreement confirms, a hatch that leaves LOCKED
ends it (R168). -/
def PartState.follow (settleTime : Nat) (k : Container) : PartState → PartState
  | .waiting =>
    if k.hatch.state = .locked then (if k.confirms then .confirmed else .window settleTime) else .waiting
  | .window r => if k.hatch.state ≠ .locked then .notEngaged else if k.confirms then .confirmed else .window r
  | x => x

/-- The parts of container `c` follow its hatch and its HL; at an OFFLINE station nothing follows, the notice ends them (R168; DEDUCED,
assumption 11, unsafe). -/
def State.followParts (c : Nat) (s : State) : State :=
  match s.container? c with
  | some k => if s.onlineAt c then s.updParts c (PartState.follow s.tuning.settleTime k) else s
  | none => s

end Sys2Proof.Machine
end

