-- ==== Sys2Proof/Machine/HatchOps.lean ====
section
/-!
DEFINITION. Hatch changes and their hand-overs (R105), withdrawal (R106), the exit test of PENDING (R134), block requests (R162), and the
raising of events with bound actions (R167 to R169).
-/
namespace Sys2Proof.Machine

/-! ### Leaving PENDING (R134, R136) -/

/-- Entering UNLATCHED: latch RELEASE, lift wait started, the phase change handed to the monitor (R136). -/
def State.enterUnlatched (c : Nat) (s : State) : State :=
  (s.setLatch c .release).withPattern c
    (State.updOp c fun op => { op with phase := .unlatched, timer := some s.tuning.liftWait })

/-- The three conditions of the exit test, for an operation in PENDING (R134). -/
def State.mayUnlatch (s : State) (c : Nat) : Bool :=
  match s.opOf c, s.container? c with
  | some op, some k =>
    op.phase == .pending && k.hatch.state == .locked && k.contacts.hl.accepted == some true && !s.craneTaken c
  | _, _ => false

/-- The exit test of PENDING (R134). -/
def State.exitTest (c : Nat) (s : State) : State := if s.mayUnlatch c then s.enterUnlatched c else s

/-! ### Hatch changes -/

/-- The hatch of container `c` is LOCKED. -/
def State.hatchLocked (s : State) (c : Nat) : Bool :=
  match s.container? c with
  | some k => k.hatch.state == .locked
  | none => false

/-- Change a hatch record and hand the change over (R105): to the integrity monitor, with its confirmation parts, and to the emptying controller,
which makes its exit test when the hatch has become LOCKED. -/
def State.changeHatch (c : Nat) (f : HatchRecord → HatchRecord) (s : State) : State :=
  let s' := (s.withPattern c (State.updContainer c fun k => { k with hatch := f k.hatch })).followParts c
  if !s.hatchLocked c && s'.hatchLocked c then s'.exitTest c else s'

/-- A hatch record whose admission or force release has ended with the hatch LOCKED (R102, R106, R107, R111; close action LOCK
is DEDUCED, assumption 19, safe). -/
def HatchRecord.lockedNow (h : HatchRecord) : HatchRecord :=
  { state := .locked
    force := if h.force = .release then .none else h.force
    admission := none
    window := none
    deposit := none
    closeAction := .lock }

/-- Hand the directory the return of an admission, if the hatch serves one (R73). -/
def State.returnAdmission (a : Option Admission) (s : State) : State :=
  match a with
  | some a => s.giveBack a
  | none => s

/-- Lock a hatch without a deposit: the reservation returned, lock ENGAGE, hatch LOCKED (R102, R106, R107). -/
def State.lockHatch (c : Nat) (h : HatchRecord) (s : State) : State :=
  ((s.returnAdmission h.admission).setLock c .engage).changeHatch c HatchRecord.lockedNow

/-- A withdrawal (R106). -/
def State.withdraw (c : Nat) (s : State) : State :=
  match s.container? c with
  | none => s
  | some k =>
    match k.hatch.state, k.hatch.force with
    | .locked, _ => s
    | .released, _ => s.lockHatch c k.hatch
    | .opened, .release => s.changeHatch c fun h => { h with force := .none, closeAction := .lock }
    | .opened, _ => s

/-- A block request (R162): the first cause stays; the hatch is withdrawn in every case. -/
def State.blockRequest (c : Nat) (cause : BlockCause) (s : State) : State :=
  (s.updContainer c fun k => { k with blocked := k.blocked.or (some cause) }).withdraw c

/-! ### Raising events with bound actions (R167 to R169) -/

/-- The confirmation part of a container at the start of an action: checked at once when the hatch is LOCKED, waiting when it is OPEN (R168). -/
def State.startPart (s : State) (c : Nat) : Part where
  container := c
  state :=
    match s.container? c with
    | some k => PartState.follow s.tuning.settleTime k .waiting
    | none => .notEngaged

/-- Start a lock action on these containers (R167): block requests, in ascending container number (DESIGN CHOICE, assumption 33, unsafe), then one
confirmation part each; it may be complete at once. -/
def State.startLock (e : Event) (cs : List Nat) (s : State) : State :=
  let s := forEach cs (fun c => State.blockRequest c .integrityAction) s
  State.completeActions { s with actions := s.actions ++ [{ event := e, parts := cs.map s.startPart }] }

/-- The container has a latched setup. -/
def State.hasLatched (s : State) (c : Nat) : Bool :=
  match s.container? c with
  | some k => k.latched.isSome
  | none => false

/-- Raise an event of a bindable class at station `t` (R167, R169): posted at once without an action; a LIST_INSPECTION completes at once; a lock
action holds the event. `named` are the containers LOCK_CONTAINER and LIST_INSPECTION act on, ascending; a LIST_INSPECTION hands its insertions to the
list in that order (DESIGN CHOICE, assumption 33, unsafe). -/
def State.raise (cls : EventClass) (t : Nat) (container : Option Nat) (named : List Nat) (body : EventBody) (s : State) : State :=
  let e := s.event cls (some t) container body
  match (s.bindingOf cls).action with
  | .none => s.postResult e .none 0
  | .lockContainer => s.startLock e named
  | .lockStation => s.startLock e (s.containersAt t)
  | .listInspection =>
    (forEach (named.filter s.hasLatched) (fun c s => s.insertionRequest c .inspection (s.forecastOf c)) s).postResult e .done 0

/-- Raise an event of container scope (R167). -/
def State.raiseAt (cls : EventClass) (c : Nat) (body : EventBody) (s : State) : State := s.raise cls (c / 4) (some c) [c] body

end Sys2Proof.Machine
end

