-- ==== Sys2Proof/Machine/Estimation.lean ====
section
/-!
DEFINITION. Fill estimation and level bands (chapters 2 and 3): the measurement gate, echo validation, the four stages of the arithmetic, the
band evaluations and the effects of a band change.
-/
namespace Sys2Proof.Machine

/-! ### The arithmetic (section 2.5) -/

/-- Stage 1 (R40): the instantaneous level of a raw distance, halves rounded up. -/
def Setup.levelAt (x : Setup) (d : Nat) : Nat :=
  let dc := if d < x.fullDistance then x.fullDistance else if x.emptyDistance < d then x.emptyDistance else d
  let span := x.emptyDistance - x.fullDistance
  ((x.emptyDistance - dc) * 2000 + span) / (2 * span)

/-- Stage 2 (R41): the smoothed level moved toward 16 × f by the fraction α/16 of the difference, truncated toward zero. -/
def smoothTo (alpha f smoothed : Nat) : Nat :=
  ((smoothed : Int) + Int.tdiv ((16 * (f : Int) - (smoothed : Int)) * (alpha : Int)) 16).toNat

/-- Stage 3 (R43): C and L from S and P. -/
def Estimator.stage3 (e : Estimator) : Estimator :=
  let c := min 16000 (e.smoothed.getD 0 + e.credit)
  { e with credited := c, level := (c + 8) / 16 }

/-- The forecast in whole hours, 255 for none (R46). -/
def hoursToFull (credited rate tFull : Nat) : Nat :=
  if 16 * tFull ≤ credited then 0
  else if rate = 0 then 255
  else min 254 ((16 * tFull - credited + rate - 1) / rate)

/-- Recompute H (R46). -/
def Estimator.forecastNow (x : Setup) (e : Estimator) : Estimator :=
  { e with forecast := hoursToFull e.credited e.rate x.tFull }

/-- Stage 4 (R45): the rate from the hour's growth, the new baseline, then H. -/
def Estimator.stage4 (x : Setup) (e : Estimator) : Estimator :=
  let e :=
    match e.baseline with
    | none => { e with baseline := some e.credited }
    | some ch => { e with rate := (3 * e.rate + (e.credited - ch) + 2) / 4, baseline := some e.credited }
  e.forecastNow x

/-- A sample is a seed (R44). -/
def Estimator.seeds (tag : Option VerifyTag) (e : Estimator) : Bool := e.smoothed.isNone || tag == some { seedMarker := true }

/-- Stages 2 and 3 of an accepted sample of level `f` (R41, R43, R44). -/
def Estimator.absorb (x : Setup) (tag : Option VerifyTag) (f : Nat) (e : Estimator) : Estimator :=
  let s :=
    match e.smoothed with
    | none => 16 * f
    | some s => if e.seeds tag then 16 * f else smoothTo x.alpha f s
  { e with smoothed := some s, credit := 0 }.stage3

/-- The estimator's part of a deposit credit (R42, steps 1 to 3). -/
def Estimator.addDeposit (x : Setup) (w : Nat) (e : Estimator) : Estimator :=
  { e with credit := min 16000 (e.credit + w * x.perWeight), deposits := min 65535 (e.deposits + 1) }.stage3

/-- Reinitialisation (R26, step 2). Deposits since emptying and the last accepted sample are kept. -/
def Estimator.reinitialise (e : Estimator) : Estimator :=
  { e with
    smoothed := none, credit := 0, rate := 0, baseline := none, forecast := 255, band := none, candidate := none, count := 0
    sensor := .unseen, rejected := 0 }.stage3

/-! ### Candidates (R51, R52) -/

/-- The highest band whose threshold, lowered by `h`, the level reaches. -/
def Setup.bandAt (x : Setup) (h l : Nat) : Band :=
  if x.tLock - h ≤ l then .lockout else if x.tFull - h ≤ l then .full else if x.tNotice - h ≤ l then .notice else .low

/-- The candidate of a container in a numbered band (R51). -/
def Setup.candidate (x : Setup) (b : Band) (l : Nat) : Band :=
  if b.number < (x.bandAt 0 l).number then x.bandAt 0 l
  else if (x.bandAt x.hysteresis l).number < b.number then x.bandAt x.hysteresis l
  else b

/-! ### A band change (R57, R58, R61) -/

/-- The thresholds a change crosses, in crossing order (R58). -/
def crossings (b b' : Band) : List Nat :=
  if b.number < b'.number then ([1, 2, 3] : List Nat).filter fun k => decide (b.number < k ∧ k ≤ b'.number)
  else ([3, 2, 1] : List Nat).filter fun k => decide (b'.number < k ∧ k ≤ b.number)

/-- The passage mode of threshold `k` (section 3.1). -/
def Setup.passageMode (x : Setup) (k : Nat) : PassageMode :=
  match k with
  | 1 => x.passNotice
  | 2 => x.passFull
  | _ => x.passLock

/-- A crossing in this direction is reported under this mode (R58). -/
def PassageMode.reports (upward : Bool) : PassageMode → Bool
  | .off => false
  | .up => upward
  | .down => !upward
  | .both => true

/-- Report one crossing: the flag, then LEVEL_PASSAGE (R58, R59). -/
def State.reportPassage (c : Nat) (upward : Bool) (k : Nat) (s : State) : State :=
  (s.updFlags c (ContainerFlags.setPassage k)).postAt .levelPassage c (.levelPassage k upward (s.levelOf c))

/-- Report the passages of a change between numbered bands, in crossing order (R58). -/
def State.reportPassages (c : Nat) (x : Setup) (b b' : Band) (s : State) : State :=
  let upward := decide (b.number < b'.number)
  forEach ((crossings b b').filter fun k => (x.passageMode k).reports upward) (State.reportPassage c upward) s

/-- A band change, in the order of R57; a change out of UNKNOWN crosses nothing. -/
def State.changeBand (c : Nat) (x : Setup) (old : Option Band) (new : Band) (s : State) : State :=
  let s := s.updEst c fun e => { e with band := some new, candidate := none, count := 0 }
  let s :=
    match old with
    | none => s
    | some b => s.reportPassages c x b new
  let s := s.updEst c (Estimator.forecastNow x)
  s.bandRequests c old new (s.forecastOf c)

/-! ### The three evaluations (R53 to R55) -/

/-- The band evaluation at a seed (R54); H is recomputed after any seed (R44, R46). -/
def State.evaluateSeed (c : Nat) (x : Setup) (e : Estimator) (s : State) : State :=
  let new :=
    match e.band with
    | none => x.bandAt 0 e.level
    | some b => x.candidate b e.level
  if e.band = some new then (s.updEst c fun e => { e with candidate := none, count := 0 }).updEst c (Estimator.forecastNow x)
  else s.changeBand c x e.band new

/-- The sample-driven filter (R53). -/
def State.evaluateSample (c : Nat) (x : Setup) (e : Estimator) (s : State) : State :=
  match e.band with
  | none => s
  | some b =>
    let cand := x.candidate b e.level
    let count := if e.candidate = some cand then e.count + 1 else 1
    if cand = b then s.updEst c fun e => { e with candidate := none, count := 0 }
    else if count ≥ x.confirmations then s.changeBand c x (some b) cand
    else s.updEst c fun e => { e with candidate := some cand, count := count }

/-- The credit-driven evaluation (R55). -/
def State.evaluateCredit (c : Nat) (x : Setup) (e : Estimator) (s : State) : State :=
  match e.band with
  | none => s
  | some b => if b.number < (x.candidate b e.level).number then s.changeBand c x (some b) (x.candidate b e.level) else s

/-- A deposit credit of weight `w` (R42). A container without a latched setup has no running estimator and takes none
(DEDUCED, assumption 20, unsafe). -/
def State.credit (c w : Nat) (s : State) : State :=
  match s.container? c with
  | none => s
  | some k =>
    match k.latched with
    | none => s
    | some x =>
      let e := k.est.addDeposit x w
      ((s.updEst c (Estimator.addDeposit x w)).evaluateCredit c x e).updEst c fun e =>
        { e with postDeposit := some s.tuning.postDeposit }

/-! ### Measurement requests (R31, R33) -/

/-- What becomes of a measurement request (R31). -/
inductive RequestResult where
  | dropped
  | foldedInFlight
  | foldedInMarker
  | notStarted
  | passed
  deriving DecidableEq, Repr

/-- The gate of R31 and the scanner's answer (R13). -/
def State.requestResult (c : Nat) (verify : Bool) (s : State) : RequestResult :=
  match s.container? c with
  | none => .dropped
  | some k =>
    if s.mode = .configure ∨ k.latched.isNone then .dropped
    else if s.phaseOf c = some .unlatched ∨ s.phaseOf c = some .lifted ∨ (s.phaseOf c = some .returned ∧ verify = false) then .dropped
    else if k.est.flight.isSome then .foldedInFlight
    else if k.marker.isSome then .foldedInMarker
    else if s.onlineAt c then .passed
    else .notStarted

/-- A verification request's tag takes the place of the one before it; another request leaves the tag (R33; DEDUCED, assumption
27, unsafe). -/
def retag (new old : Option VerifyTag) : Option VerifyTag :=
  match new with
  | some t => some t
  | none => old

/-- A measurement request, with its verification tag if it is one (R31, R33). -/
def State.requestMeasurement (c : Nat) (tag : Option VerifyTag) (s : State) : State :=
  match s.requestResult c tag.isSome with
  | .dropped => s
  | .notStarted => s
  | .foldedInFlight => s.updEst c fun e => { e with flight := e.flight.map fun x => { x with tag := retag tag x.tag } }
  | .foldedInMarker => s.updContainer c fun k => { k with marker := k.marker.map fun m => { m with tag := retag tag m.tag } }
  | .passed => s.updContainer c fun k => { k with marker := some { tag := tag } }

/-- The measurement-started notice (R13, R29, R34): the marker is cleared, the measurement is in flight, and the periodic timer restarts outside
CONFIGURE. -/
def State.measurementStarted (c : Nat) (s : State) : State :=
  s.updContainer c fun k =>
    { k with
      marker := none
      est :=
        { k.est with
          flight := some { tag := k.marker.bind Marker.tag, timeout := Config.echoTimeout }
          periodic := if s.mode = .configure then k.est.periodic else some s.tuning.interval } }

/-! ### Samples (R35 to R38, R48) -/

/-- The estimator's answer to a verification attempt (R33). -/
inductive Answer where
  | failed
  | accepted (level : Nat) (asSeed : Bool) (deposits : Nat)
  deriving DecidableEq, Repr

/-- A rejected sample (R36). -/
def State.rejectSample (c : Nat) (s : State) : State :=
  match s.container? c with
  | none => s
  | some k =>
    let n := min 255 (k.est.rejected + 1)
    let s := s.updEst c fun e => { e with rejected := n }
    if 4 ≤ n ∧ k.est.sensor ≠ .faulty then
      ((s.updEst c fun e => { e with sensor := .faulty }).updFlags c fun f => { f with sensorFault := true }).raiseAt .sensorFault c
        (.sensorFault n)
    else s

/-- Step 1 of R48: the rejected count and the sensor state; `level` is L after the sample (R37, R174). -/
def State.sensorGood (c : Nat) (was : Sensor) (level : Nat) (s : State) : State :=
  let s := s.updEst c fun e => { e with rejected := 0, sensor := .good }
  if was = .faulty then s.postAt .sensorRecovered c (.sensorRecovered level) else s

/-- Step 2 of R48: the overfill test (R38). -/
def State.overfillTest (c : Nat) (x : Setup) (d : Nat) (s : State) : State :=
  match s.container? c with
  | none => s
  | some k =>
    if d < x.fullDistance ∧ k.flags.overfill = false then
      (s.updFlags c fun f => { f with overfill := true }).raiseAt .overfill c (.overfill d)
    else s

/-- Step 5 of R48: a verification seed resets deposits since emptying and the hour baseline (R44). -/
def Estimator.verificationSeed (e : Estimator) : Estimator := { e with deposits := 0, baseline := some e.credited }

/-- An accepted sample, steps 1 to 6 of R48. `e` is the record before the sample. -/
def State.acceptSample (c : Nat) (x : Setup) (e : Estimator) (d q : Nat) (tag : Option VerifyTag) (s : State) : State :=
  let f := x.levelAt d
  let e' := e.absorb x tag f
  let s := s.sensorGood c e.sensor e'.level
  let s := s.overfillTest c x d
  let s := s.updEst c (Estimator.absorb x tag f)
  let s := if e.seeds tag then s.evaluateSeed c x e' else s.evaluateSample c x e'
  let s := if tag = some { seedMarker := true } then s.updEst c Estimator.verificationSeed else s
  s.updEst c fun e =>
    { e with last := some { distance := d, quality := q, level := f, day := s.clock.day, second := s.clock.second } }

/-- The answer an accepted sample gives (R33): L after the sample, whether it was a seed, and the deposits as they stood before it. -/
def acceptedAnswer (x : Setup) (e : Estimator) (d : Nat) (tag : Option VerifyTag) : Answer :=
  .accepted (e.absorb x tag (x.levelAt d)).level (e.seeds tag) e.deposits

/-- An echo result is a rejected sample (R35). -/
def Echo.rejectedBy (x : Setup) : Echo → Bool
  | .noEcho => true
  | .heard d q => decide (q < 3) || decide (x.emptyDistance + 200 < d)

/-- The measurement in flight ends. -/
def State.endFlight (c : Nat) (s : State) : State := s.updEst c fun e => { e with flight := none }

/-- The answer for a measurement with this tag, if it is a verification measurement. -/
def answerFor (tag : Option VerifyTag) (a : Answer) : Option Answer := tag.map fun _ => a

/-- An echo result handed on (R35): discarded, or ending its measurement as a rejected or accepted sample. With the answer to the emptying
controller, if there is one. -/
def State.takeEcho (c : Nat) (echo : Echo) (s : State) : State × Option Answer :=
  match s.container? c with
  | none => (s, none)
  | some k =>
    match k.est.flight, k.latched with
    | none, _ => (s, none)
    | some _, none => (s.endFlight c, none)
    | some fl, some x =>
      let busyPhase := match s.phaseOf c with
        | some ph => ph.holdsCrane
        | none => false
      if s.mode = .configure ∨ (busyPhase = true ∧ fl.tag = none) then (s.endFlight c, none)
      else
        match echo with
        | .noEcho => ((s.endFlight c).rejectSample c, answerFor fl.tag .failed)
        | .heard d q =>
          if (Echo.heard d q).rejectedBy x then ((s.endFlight c).rejectSample c, answerFor fl.tag .failed)
          else ((s.endFlight c).acceptSample c x k.est d q fl.tag, answerFor fl.tag (acceptedAnswer x k.est d fl.tag))

/-- The echo timeout of a measurement in flight (R34, R28): a rejected sample outside CONFIGURE. -/
def State.takeEchoTimeout (c : Nat) (s : State) : State × Option Answer :=
  match s.container? c with
  | none => (s, none)
  | some k =>
    match k.est.flight with
    | none => (s, none)
    | some fl =>
      if s.mode = .configure then (s.endFlight c, none)
      else ((s.endFlight c).rejectSample c, answerFor fl.tag .failed)

/-! ### Schedule (R28) -/

/-- Entering OPERATE or SUPERVISE: a measurement requested at once and the periodic timer started, for each container with a latched setup (R28). -/
def State.startSchedule (s : State) : State :=
  forEach (s.containersInUse.filter s.hasLatched)
    (fun c s => (s.requestMeasurement c none).updEst c fun e => { e with periodic := some s.tuning.interval }) s

end Sys2Proof.Machine
end

