-- ==== Sys2Proof/Machine/Emptying.lean ====
section
/-!
DEFINITION. The emptying controller (chapter 7): starts, outcomes, verification, the contacts it takes, the offline notice and the seating
check.
-/
namespace Sys2Proof.Machine

/-! ### Starting (R129 to R133) -/

/-- The lowest free slot, if there is one (R129). -/
def State.freeSlot (s : State) : Option Nat := s.ops.findIdx? Option.isNone

/-- The number of operations in being (R129). -/
def State.opCount (s : State) : Nat := (s.ops.filterMap id).length

/-- The container's force state is RELEASE. -/
def State.forceReleased (s : State) (c : Nat) : Bool :=
  match s.container? c with
  | some k => k.hatch.force == .release
  | none => false

/-- The container's entry is CLAIMED. -/
def State.entryClaimed (s : State) (c : Nat) : Bool :=
  match s.entry? c with
  | some e => e.claimed
  | none => false

/-- The tests of a start request from a CREW card, in order (R130). -/
def State.crewRefusal (s : State) (c : Nat) : Option RefusalCode :=
  if s.round.isNone then some .noRound
  else if !s.entryClaimed c then some .notListed
  else if s.forceReleased c then some .forced
  else if (s.opOf c).isSome then some .busy
  else if s.craneTaken c then some .busy
  else if s.freeSlot.isNone then some .noSlot
  else none

/-- The tests of LIFT_START, in order (R131). -/
def State.liftRefusal (s : State) (c : Nat) : Option ResultCode :=
  if s.round.isNone then some .noRound
  else if s.forceReleased c then some .forced
  else if (s.opOf c).isSome then some .busy
  else if s.craneTaken c then some .busy
  else if s.freeSlot.isNone then some .noSlot
  else if !s.onlineAt c then some .offline
  else none

/-- A new operation record (R133, step 1). -/
def newOperation (c : Nat) (by' : StartBy) (order : Nat) : Operation where
  container := c
  phase := .pending
  start := by'
  order := order
  timer := none
  attempts := 0
  seedTaken := false
  verified := none
  depositsAtSeed := none

/-- Make the operation record in the lowest free slot (R129, R133). -/
def State.makeOperation (c : Nat) (by' : StartBy) (s : State) : State :=
  match s.freeSlot with
  | some i => { s with ops := s.ops.set i (some (newOperation c by' s.opCount)) }
  | none => s

/-- Add a container to the round's started set (R124, R133). -/
def State.addStarted (c : Nat) (s : State) : State :=
  { s with round := s.round.map fun r => { r with started := r.started ||| (1 <<< c) } }

/-- A start that is taken, in the steps of R133. -/
def State.start (c : Nat) (by' : StartBy) (s : State) : State :=
  let s := s.withPattern c (State.makeOperation c by')
  let s := s.addStarted c
  let s := if by' = .host then s.claimRequest c else s
  (s.withdraw c).exitTest c

/-! ### Outcomes (R144 to R147) -/

/-- Release the container's verification interest (R147): the tag of the measurement in flight or of the marked request is cleared. -/
def State.releaseVerification (c : Nat) (s : State) : State :=
  s.updContainer c fun k =>
    { k with
      marker := k.marker.map fun m => { m with tag := none }
      est := { k.est with flight := k.est.flight.map fun x => { x with tag := none } } }

/-- Count an outcome in the round record; each count stops at 65535 (R124). -/
def Round.countOutcome (o : LiftOutcome) (r : Round) : Round :=
  match o with
  | .emptied => { r with nEmptied := min 65535 (r.nEmptied + 1) }
  | .partialLift => { r with nPartial := min 65535 (r.nPartial + 1) }
  | .abandoned => { r with nAbandoned := min 65535 (r.nAbandoned + 1) }
  | .fault => { r with nFault := min 65535 (r.nFault + 1) }

/-- Free the slot of container `c`; start orders above the freed one move down by one (R129). -/
def State.freeOperation (c : Nat) (order : Nat) (s : State) : State :=
  { s with
    ops := s.ops.map fun o =>
      match o with
      | none => none
      | some op =>
        if op.container = c then none
        else some (if order < op.order then { op with order := op.order - 1 } else op) }

/-- The waiting operations of a container's station, in ascending start order (R134). -/
def State.waitingOps (s : State) (c : Nat) : List Nat :=
  (((List.range s.ops.length).flatMap fun n =>
    (s.ops.filterMap id).filter fun op => op.order == n && op.phase == .pending && op.container / 4 == c / 4)).map
      Operation.container

/-- The body of EMPTYING_DONE (R146). -/
def State.doneBody (s : State) (o : LiftOutcome) (op : Operation) : EventBody :=
  .emptyingDone o op.phase op.start op.attempts op.verified
    (op.depositsAtSeed.getD (((s.container? op.container).map fun k => k.est.deposits).getD 0))

/-- Steps 1 to 7 of an outcome (R144, R145). -/
def State.finish (op : Operation) (o : LiftOutcome) (s : State) : State :=
  let c := op.container
  let s := s.releaseVerification c
  let s := s.setLatch c .engage
  let s := { s with round := s.round.map (Round.countOutcome o) }
  let s := if o = .fault then s.blockRequest c .lift else s
  let s := s.listOutcome c o
  let s := s.withPattern c (State.freeOperation c op.order)
  s.postAt .emptyingDone c (s.doneBody o op)

/-- An outcome ends the operation of container `c` (R144); step 8 makes the exit test for the station's waiting operations. -/
def State.endOperation (c : Nat) (o : LiftOutcome) (s : State) : State :=
  match s.opOf c with
  | none => s
  | some op =>
    let s := s.finish op o
    if op.phase.holdsCrane then forEach (s.waitingOps c) State.exitTest s else s

/-! ### Verification (R141, R142) -/

/-- T_empty of the container's latched setup. -/
def State.tEmptyOf (s : State) (c : Nat) : Option Nat := (s.container? c).bind fun k => k.latched.map Setup.tEmpty

/-- Attempt 3 has been answered without EMPTIED: the operation ends PARTIAL (R142). -/
def State.afterAnswer (c : Nat) (s : State) : State :=
  match s.opOf c with
  | some op => if op.phase = .returned ∧ op.attempts = 3 then s.endOperation c .partialLift else s
  | none => s

/-- The emptying controller takes an answer to the latest verification attempt (R142). -/
def State.takeAnswer (c : Nat) (a : Answer) (s : State) : State :=
  match s.opOf c with
  | none => s
  | some op =>
    if op.phase = .returned then
      match a with
      | .failed => s.afterAnswer c
      | .accepted l asSeed deposits =>
        let s := s.updOp c fun op =>
          { op with
            verified := some l
            seedTaken := op.seedTaken || asSeed
            depositsAtSeed := if asSeed then some deposits else op.depositsAtSeed }
        match s.tEmptyOf c with
        | some t => if l ≤ t then s.endOperation c .emptied else s.afterAnswer c
        | none => s.afterAnswer c
    else s

/-- Take an answer if there is one. -/
def State.answered (c : Nat) (a : Option Answer) (s : State) : State :=
  match a with
  | some a => s.takeAnswer c a
  | none => s

/-- A verification attempt (R141): counted, the attempt timer restarted or, after attempt 3, stopped, the request handed to the estimator; a request
that is not started is answered failed at once (R33). -/
def State.attempt (c : Nat) (s : State) : State :=
  match s.opOf c with
  | none => s
  | some op =>
    let n := op.attempts + 1
    let tag : Option VerifyTag := some { seedMarker := !op.seedTaken }
    let s := s.updOp c fun op => { op with attempts := n, timer := if n < 3 then some Config.attemptTime else none }
    let started := s.requestResult c true
    let s := s.requestMeasurement c tag
    if started = .notStarted then s.takeAnswer c .failed else s

/-! ### Phases driven by contacts (R134, R137, R138, R140) -/

/-- Entering LIFTED (R138). -/
def State.enterLifted (c : Nat) (s : State) : State :=
  s.withPattern c (State.updOp c fun op => { op with phase := .lifted, timer := some Config.liftedTime })

/-- Entering RETURNED, in the steps of R140. -/
def State.enterReturned (c : Nat) (s : State) : State :=
  ((s.setLatch c .engage).withPattern c (State.updOp c fun op => { op with phase := .returned, timer := none })).attempt c

/-- What a contact's filter made of a reply: nothing, an initial acceptance or an accepted change (R16). -/
inductive Acceptance where
  | none
  | initial
  | changed
  deriving DecidableEq, Repr

/-- A value was accepted, in either way. -/
def Acceptance.some? : Acceptance → Bool
  | .none => false
  | .initial => true
  | .changed => true

/-- The seating check (R151), taken at the first initial acceptance of SE. -/
def State.seatingTest (c : Nat) (acc : PerContact Acceptance) (s : State) : State :=
  match s.container? c with
  | none => s
  | some k =>
    if k.seatingCheck = true ∧ acc.se = .initial then
      let s := s.updContainer c fun k => { k with seatingCheck := false }
      if k.contacts.se.accepted = some false then
        (s.blockRequest c .liftInterrupted).insertionRequest c .inspection (s.forecastOf c)
      else s
    else s

/-- What the contacts do to the container's operation (R134, R137, R138): one handover acts on the phase it finds (DEDUCED, assumption 9, unsafe). -/
def State.opContacts (c : Nat) (acc : PerContact Acceptance) (s : State) : State :=
  match s.container? c, s.opOf c with
  | some k, some op =>
    match op.phase with
    | .pending => if acc.hl.some? then s.exitTest c else s
    | .unlatched => if acc.se = .changed ∧ k.contacts.se.accepted = some false then s.enterLifted c else s
    | .lifted =>
      if (acc.se.some? || acc.pd.some?) = true ∧ k.contacts.se.accepted = some true ∧ k.contacts.pd.accepted = some true then
        s.enterReturned c
      else s
    | .returned => s
  | _, _ => s

/-- The emptying controller takes the contacts of a reply (R17, R134 to R140, R151). -/
def State.emptyingContacts (c : Nat) (acc : PerContact Acceptance) (s : State) : State :=
  (s.opContacts c acc).seatingTest c acc

/-! ### Notices -/

/-- The offline notice at the emptying controller (R148), operation by operation in slot order (DESIGN CHOICE, assumption 34, unsafe). -/
def State.emptyingOffline (t : Nat) (s : State) : State :=
  forEach (((s.ops.filterMap id).filter fun op => op.container / 4 == t).map Operation.container)
    (fun c s =>
      match s.phaseOf c with
      | some .pending => s.endOperation c .abandoned
      | some .unlatched => s.endOperation c .abandoned
      | _ => s) s

/-- The actuator-fault notice for LL (R143). -/
def State.actuatorFaultNotice (c : Nat) (s : State) : State :=
  if s.phaseOf c = some .returned then s.endOperation c .fault else s

end Sys2Proof.Machine
end

