-- ==== Sys2Proof/Machine/Admission.lean ====
section
/-!
DEFINITION. The admission controller (chapter 5): presentations and their check order, admissions, the hatch machine, and the offline notice.
-/
namespace Sys2Proof.Machine

/-! ### Answers at the column (R98, R99) -/

/-- Show a refusal's digit, if its code has one (R91, R98). -/
def State.showRefusal (c : Nat) (code : RefusalCode) (s : State) : State :=
  match code.digit with
  | some d => s.showLamp c (.red d)
  | none => s

/-- Refuse a presentation: the lamp, then ADMISSION_DENIED (R98, R99). -/
def State.deny (c : Nat) (card : CardId) (code : RefusalCode) (s : State) : State :=
  (s.showRefusal c code).postAt .admissionDenied c (.admissionDenied card code)

/-- The HOLD suspension of the watch list (R87). -/
def State.suspendCard (id : CardId) (s : State) : State := s.updCard id fun r => { r with suspended := true }

/-- Step 2 of the check order at the watch list: CARD_WATCH posted for an entry, the record suspended for HOLD (R87, R93). -/
def State.watchStep (c : Nat) (id : CardId) (s : State) : State :=
  match s.watchAction id with
  | none => s
  | some .hold => (s.postAt .cardWatch c (.cardWatch id .hold)).suspendCard id
  | some a => s.postAt .cardWatch c (.cardWatch id a)

/-- The watch list turns the card away (R92, step 2). -/
def refusedByWatch : Option WatchAction → Bool
  | some .deny => true
  | some .hold => true
  | _ => false

/-! ### The check order (R92 to R96) -/

/-- The weight of a presentation: the record's, or 1 (R66, R96). -/
def Card.weightOf (r : Card) : Nat := r.weight.getD 1

/-- Steps 7 to 10 (R95), for a record found at step 3. -/
def State.containerRefusal (s : State) (c : Nat) (k : Container) (r : Card) : Option RefusalCode :=
  if r.home.getLsbD (c / 4) = false then some .notHere
  else if k.fraction.isIn r.fractions = false then some .fraction
  else if k.blocked.isSome then some .blocked
  else if k.hatch.force ≠ .none then some .forced
  else if k.est.band = some .lockout then some .lockedOut
  else if (s.opOf c).isSome then some .emptying
  else if k.hatch.state ≠ .locked then some .busy
  else none

/-- The charged flag of a presentation at a container (R69, R96). -/
def State.chargedAt (s : State) (k : Container) : Bool := k.fraction.isIn s.directory.charged

/-- A granted reservation is an admission (R96): the admission record, RELEASED, lock RELEASE, the window and GREEN. -/
def State.admitCard (c : Nat) (a : Admission) (s : State) : State :=
  let s := s.setLock c .release
  let s := s.showLamp c .green
  s.changeHatch c fun h => { h with state := .released, admission := some a, window := some s.tuning.releaseWindow }

/-- Steps 11 and 12 (R96): the reservation request and what follows its answer. -/
def State.reserveAndAdmit (c : Nat) (k : Container) (r : Card) (s : State) : State :=
  let w := r.weightOf
  let refused := (r.rollover s.currentPeriod).reserveRefusal w
  let s := s.updCard r.id (Card.reserve s.currentPeriod w)
  match refused with
  | some code => s.deny c r.id code
  | none => s.admitCard c { card := r.id, weight := w, charged := s.chargedAt k }

/-- A CREW card at a container is a start request (R94, R130). -/
def State.crewStart (c : Nat) (id : CardId) (s : State) : State :=
  match s.crewRefusal c with
  | some code => s.deny c id code
  | none => (s.start c (.card id)).showLamp c .green

/-- Steps 3 to 12 of the check order (R92). -/
def State.directorySteps (c : Nat) (k : Container) (id : CardId) (s : State) : State :=
  match s.card? id with
  | none => s.deny c id .unknown
  | some r =>
    if r.suspended then s.deny c id .suspended
    else if (match r.expiry with
      | some d => decide (d < s.clock.day)
      | none => false) = true then s.deny c id .expired
    else if r.cls = .crew then s.crewStart c id
    else
      match s.containerRefusal c k r with
      | some code => s.deny c id code
      | none => s.reserveAndAdmit c k r

/-- Serve a presentation (R91 to R96): a container no longer in use discards it, an OFFLINE station refuses it, then the check order. -/
def State.serve (c : Nat) (id : CardId) (s : State) : State :=
  match s.container? c with
  | none => s
  | some k =>
    if s.onlineAt c = false then s.deny c id .offline
    else if s.mode = .configure then s.deny c id .mode
    else
      let action := s.watchAction id
      let s := s.watchStep c id
      if refusedByWatch action then s.deny c id .watched else s.directorySteps c k id

/-- A presentation arrives (R90): served, or queued during a directory edit, or refused QUEUE_FULL. -/
def State.present (c : Nat) (id : CardId) (s : State) : State :=
  if s.directory.edit.isNone then s.serve c id
  else if s.waiting.length < Config.maxWaiting then { s with waiting := s.waiting ++ [{ container := c, card := id }] }
  else s.deny c id .queueFull

/-- The completion notice of an edit: every queued presentation is served, oldest first, and the queue is empty (R91). -/
def State.serveWaiting (s : State) : State :=
  s.waiting.foldl (fun s p => s.serve p.container p.card) { s with waiting := [] }

/-! ### The hatch machine (R100 to R103) -/

/-- An accepted change of HC to 0 at a RELEASED hatch (R101). -/
def State.openHatch (c : Nat) (s : State) : State :=
  s.changeHatch c fun h => { h with state := .opened, window := none, deposit := some s.tuning.depositTime }

/-- An accepted change of HC to 1 at an OPEN hatch: the deposit completes (R103). -/
def State.completeDeposit (c : Nat) (h : HatchRecord) (s : State) : State :=
  match h.admission with
  | some a =>
    (((s.commit a).credit c a.weight).setLock c .engage).changeHatch c fun h =>
      { h with state := .locked, admission := none, deposit := none }
  | none =>
    match h.closeAction with
    | .returnToReleased => (s.credit c 1).changeHatch c fun h => { h with state := .released, deposit := none }
    | .lock =>
      ((s.credit c 1).setLock c .engage).changeHatch c fun h => { h with state := .locked, deposit := none, closeAction := .lock }

/-- The admission controller takes the contacts of a reply: accepted changes of HC alone move the hatch (R100 to R103). -/
def State.admissionContacts (c : Nat) (acc : PerContact Acceptance) (s : State) : State :=
  match s.container? c with
  | none => s
  | some k =>
    if acc.hc = .changed then
      match k.hatch.state, k.contacts.hc.accepted with
      | .released, some false => s.openHatch c
      | .opened, some true => s.completeDeposit c k.hatch
      | _, _ => s
    else s

/-! ### Notices -/

/-- The offline notice at one container (R107). -/
def State.hatchOffline (c : Nat) (s : State) : State :=
  match s.container? c with
  | none => s
  | some k => if k.hatch.state = .locked then s else s.lockHatch c k.hatch

/-- FORCE_CANCEL's effect on one container (R111). -/
def State.cancelForce (c : Nat) (s : State) : State :=
  match s.container? c with
  | none => s
  | some k =>
    match k.hatch.force, k.hatch.state with
    | .none, _ => s
    | .lock, _ => s.changeHatch c fun h => { h with force := .none }
    | .release, .released => s.lockHatch c k.hatch
    | .release, _ => s.changeHatch c fun h => { h with force := .none, closeAction := .lock }

end Sys2Proof.Machine
end

