-- ==== Sys2Proof/Machine/Scanner.lean ====
section
/-!
DEFINITION. The station bus scanner (chapter 1) and what a reply sets off: visits, ACT and MEAS, the contact filter, the taking of a reply slot by
slot, station inputs, misses, OFFLINE and ONLINE, and the monitor's comparison of a reply.
-/
namespace Sys2Proof.Machine

/-! ### Visits (R10 to R13) -/

/-- The next station in round-robin order after the one visited last (R11). -/
def State.nextStation (s : State) : Option Nat :=
  let above :=
    match s.bus.last with
    | none => s.definedStations
    | some t => s.definedStations.filter fun u => decide (t < u)
  match above with
  | t :: _ => some t
  | [] => s.definedStations.head?

/-- The body of an ACT: the revision, then lock, latch and lamp of each slot (R10). -/
def Station.actBody (st : Station) : List Byte :=
  st.revision :: st.slots.flatMap fun k => [k.outputs.lock.byte, k.outputs.latch.byte, k.outputs.lamp.byte]

/-- The set of marked slots, slot 0 in the lowest bit (R10, R13). -/
def Station.markedSlots (st : Station) : Nat := ofBits (st.slots.map fun k => k.marker.isSome)

/-- A visit begins with an ACT: ONLINE, and the resend marker set or the revision not acknowledged (R12). -/
def Station.needsAct (st : Station) : Bool := st.online && (st.resend || st.acknowledged != some st.revision)

/-- A visit carries a MEAS: ONLINE, and some marker set (R13). -/
def Station.needsMeas (st : Station) : Bool := st.online && st.slots.any fun k => k.marker.isSome

/-- The frames of a visit, in order: ACT, MEAS, POLL (R11). -/
def Station.visitFrames (st : Station) : List (List Byte) :=
  (if st.needsAct then [busFrame st.node 0x01 st.actBody] else []) ++
  (if st.needsMeas then [busFrame st.node 0x02 [byteOf st.markedSlots]] else []) ++
  [busFrame st.node 0x03 []]

/-- The containers whose markers a visit's MEAS carries. -/
def State.markedAt (s : State) (t : Nat) : List Nat :=
  (s.containersAt t).filter fun c =>
    match s.container? c with
    | some k => k.marker.isSome
    | none => false

/-- A visit begins (R11): the frames are sent, an ACT clears the resend marker, a MEAS starts the measurements it carries. -/
def State.visit (t : Nat) (st : Station) (s : State) : State :=
  let s := { s with bus := { visiting := some t, last := some t, sent := st.visitFrames } }
  let s := if st.needsAct then s.updStation t fun st => { st with resend := false } else s
  if st.needsMeas then forEach (s.markedAt t) State.measurementStarted s else s

/-- The visit in progress ends. -/
def State.endVisit (s : State) : State := { s with bus := { s.bus with visiting := none } }

/-! ### The contact filter (R16) -/

/-- A filter after a report of `x` (R16). -/
def Filter.report (x : Bool) (f : Filter) : Filter where
  previous := some x
  accepted := if f.previous = some x then some x else f.accepted

/-- What a filter makes of a report of `x` (R16). -/
def Filter.acceptance (x : Bool) (f : Filter) : Acceptance :=
  if f.previous = some x then
    match f.accepted with
    | none => .initial
    | some a => if a = x then .none else .changed
  else .none

/-- The filters of a slot after its report. -/
def Container.reported (r : SlotReport) (k : Container) : Container :=
  { k with contacts := PerContact.zip Filter.report r.contacts k.contacts }

/-- What the filters of a slot make of its report. -/
def Container.acceptances (r : SlotReport) (k : Container) : PerContact Acceptance :=
  PerContact.zip Filter.acceptance r.contacts k.contacts

/-- One value for each input, from two. -/
def PerInput.zip {α β γ : Type} (f : α → β → γ) (x : PerInput α) (y : PerInput β) : PerInput γ where
  door := f x.door y.door
  flood := f x.flood y.flood
  aux := f x.aux y.aux

/-- The station after the filters have taken a reply, with the acknowledged revision and the miss count (R12, R15, R16). -/
def Station.report (r : PollReport) (st : Station) : Station :=
  { st with
    misses := 0
    acknowledged := some r.revision
    inputs := PerInput.zip Filter.report r.inputs st.inputs
    slots := List.zipWith Container.reported r.slots st.slots }

/-- Every filter of the station is cleared (R16). -/
def Station.clearFilters (st : Station) : Station :=
  { st with
    inputs := .all .cleared
    slots := st.slots.map fun k => { k with contacts := .all .cleared } }

/-! ### Taking a reply (R17) -/

/-- A slot's contacts are handed on: to the admission controller, to the emptying controller, and to the monitor's windows and parts. -/
def State.handContacts (c : Nat) (acc : PerContact Acceptance) (s : State) : State :=
  if acc.any Acceptance.some? then
    (((s.admissionContacts c acc).emptyingContacts c acc).settleContacts c).followParts c
  else s

/-- A slot's echo result is handed on, and the estimator's answer to the emptying controller. -/
def State.handEcho (c : Nat) (e : Option Echo) (s : State) : State :=
  match e with
  | some e => (s.takeEcho c e).1.answered c (s.takeEcho c e).2
  | none => s

/-- A slot's card read is handed on as one presentation. -/
def State.handCard (c : Nat) (id : Option CardId) (s : State) : State :=
  match id with
  | some id => s.present c id
  | none => s

/-- One slot block, in the order of R17: contacts, card read, echo result. -/
def State.handSlot (c : Nat) (r : SlotReport) (acc : PerContact Acceptance) (s : State) : State :=
  ((s.handContacts c acc).handCard c r.card).handEcho c r.echo

/-- The slot blocks in ascending slot order, from slot `i` on. -/
def State.handSlots (t : Nat) : Nat → List (SlotReport × PerContact Acceptance) → State → State
  | _, [], s => s
  | i, (r, acc) :: rest, s => State.handSlots t (i + 1) rest (s.handSlot (4 * t + i) r acc)

/-! ### The comparison of a reply (R156) -/

/-- Set the INTEGRITY flag of each container of the mismatch set (R156). -/
def State.flagBreaches (bs : List Breach) (s : State) : State :=
  forEach (bs.map Breach.container) (fun c => State.updFlags c fun f => { f with integrity := true }) s

/-- The monitor's one comparison for a reply (R156): INTEGRITY is raised when a contact-driven comparison finds an ARMED station unmatched, with no
container in its body when the station is unmatched by contacts with no accepted value alone (DESIGN CHOICE, assumption 43, unsafe). -/
def State.compare (t : Nat) (before : StationStatus) (contactDriven : Bool) (s : State) : State :=
  if before = .suspended then s
  else
    let matched := s.stationMatched t
    let s := s.updStation t fun st => { st with status := statusFor matched }
    if contactDriven = true ∧ before = .armed ∧ matched = false then
      let bs := s.breaches t
      (s.flagBreaches bs).raise .integrity t none (bs.map Breach.container) (.integrity bs)
    else s

/-! ### Station inputs (R165) -/

/-- The three inputs by class. -/
inductive Input where
  | door
  | flood
  | aux
  deriving DecidableEq, Repr

/-- The event class of an input. -/
def Input.cls : Input → EventClass
  | .door => .doorInput
  | .flood => .floodInput
  | .aux => .auxInput

/-- One input's value. -/
def PerInput.get {α : Type} (i : Input) (x : PerInput α) : α :=
  match i with
  | .door => x.door
  | .flood => x.flood
  | .aux => x.aux

/-- An input's pending flag. -/
def StationFlags.get (i : Input) (f : StationFlags) : Bool :=
  match i with
  | .door => f.door
  | .flood => f.flood
  | .aux => f.aux

/-- Set an input's pending flag. -/
def StationFlags.setInput (i : Input) (f : StationFlags) : StationFlags :=
  match i with
  | .door => { f with door := true }
  | .flood => { f with flood := true }
  | .aux => { f with aux := true }

/-- An input's event is raised at a reply: EDGE at an accepted change to the active value, LEVEL at the active value while its flag is clear. -/
def inputRaises (x : InputSetup) (accepted : Option Bool) (acc : Acceptance) (flag : Bool) : Bool :=
  accepted == some x.active &&
    match x.trigger with
    | .edge => acc == .changed
    | .level => !flag

/-- One input at a valid reply (R165). -/
def State.takeInput (t : Nat) (acc : PerInput Acceptance) (i : Input) (s : State) : State :=
  match s.station? t with
  | none => s
  | some st =>
    let x := st.inputSetup.get i
    let accepted := (st.inputs.get i).accepted
    if inputRaises x accepted (acc.get i) (st.flags.get i) then
      (s.updStation t fun st => { st with flags := st.flags.setInput i }).raise i.cls t none (s.containersAt t)
        (.input x.active x.trigger)
    else s

/-- The three inputs at a valid reply (R165), in the order DOOR, FLOOD, AUX (DESIGN CHOICE, assumption 35, unsafe). -/
def State.takeInputs (t : Nat) (acc : PerInput Acceptance) (s : State) : State :=
  ((s.takeInput t acc .door).takeInput t acc .flood).takeInput t acc .aux

/-! ### Online (R20) -/

/-- Steps 1 and 2 of R20. -/
def State.markOnline (t : Nat) (s : State) : State :=
  (s.updStation t fun st => { st with online := true, misses := 0, resend := true }).post .stationOnline (some t) none .stationOnline

/-- The online notice at the monitor (R158): every HL and LL DEFERRED; outside CONFIGURE the station is evaluated. -/
def State.onlineNotice (t : Nat) (s : State) : State :=
  let s := s.updStation t fun st =>
    { st with slots := st.slots.map fun k => { k with settleHL := .deferred, settleLL := .deferred } }
  if s.mode = .configure then s else s.updStation t fun st => { st with status := statusFor (s.stationMatched t) }

/-- A valid reply of station `t` is taken (R15 to R17, R20, R156, R165). The filters take the whole reply first; then the slots are handed on;
then comes the monitor's one comparison, whose status stands at the end of the reply; then the inputs (DEDUCED, assumptions 7 and 8, unsafe). -/
def State.takeReply (t : Nat) (st : Station) (r : PollReport) (s : State) : State :=
  let accs := List.zipWith Container.acceptances r.slots st.slots
  let inputAccs := PerInput.zip Filter.acceptance r.inputs st.inputs
  let contactDriven := accs.any fun a => a.any fun x => x == .changed
  let s := if st.online then s else s.markOnline t
  let s := s.updStation t (Station.report r)
  let s := State.handSlots t 0 (r.slots.zip accs) s
  let matched := s.stationMatched t
  let s := s.compare t st.status contactDriven
  let s := s.takeInputs t inputAccs
  let s := if st.status = .suspended then s else s.updStation t fun st => { st with status := statusFor matched }
  let s := if st.online then s else s.onlineNotice t
  s.endVisit

/-! ### Misses and OFFLINE (R15, R19) -/

/-- The scanner's marker of a container is cleared as not started; a verification request is answered failed (R13, R33). -/
def State.dropMarker (c : Nat) (s : State) : State :=
  match s.container? c with
  | none => s
  | some k =>
    (s.updContainer c fun k => { k with marker := none }).answered c (k.marker.bind fun m => answerFor m.tag .failed)

/-- The offline notice at the estimator: the measurement in flight ends without effect, a verification measurement is answered failed (R34). -/
def State.estimatorOffline (c : Nat) (s : State) : State :=
  match s.container? c with
  | none => s
  | some k => (s.endFlight c).answered c (k.est.flight.bind fun fl => answerFor fl.tag .failed)

/-- The offline notice at the monitor (R158, R168), the station SUSPENDED since its marking: windows and faults of its contacts ended, its parts not
engaged. -/
def State.monitorOffline (t : Nat) (s : State) : State :=
  let s := s.updStation t fun st =>
    { st with slots := st.slots.map fun k => { k with settleHL := k.settleHL.cancel, settleLL := k.settleLL.cancel } }
  forEach (s.containersAt t) (fun c => State.updParts c PartState.giveUp) s

/-- A station goes OFFLINE (R19): marked, and SUSPENDED with that, so that no change of an expected value that the notices make starts a window (R158,
R161); flagged, posted; filter and markers cleared; then the four notices, in the order in which R19 lists them (DESIGN CHOICE where postings of two blocks meet, R175, assumption 34, unsafe), each container by container in ascending number (DESIGN CHOICE,
assumption 33, unsafe). -/
def State.goOffline (t : Nat) (s : State) : State :=
  let s := s.updStation t fun st => { st with online := false, status := .suspended, flags := { st.flags with offline := true } }
  let s := s.post .stationOffline (some t) none .stationOffline
  let s := s.updStation t Station.clearFilters
  let s := forEach (s.containersAt t) State.dropMarker s
  let s := forEach (s.containersAt t) State.hatchOffline s
  let s := s.emptyingOffline t
  let s := s.monitorOffline t
  forEach (s.containersAt t) State.estimatorOffline s

/-- A miss (R15): counted at an ONLINE station, the third takes it OFFLINE; at an OFFLINE one nothing. -/
def State.miss (t : Nat) (st : Station) (s : State) : State :=
  if st.online = false then s
  else
    let s := s.updStation t fun st => { st with misses := min 3 (st.misses + 1) }
    if 3 ≤ st.misses + 1 then s.goOffline t else s

/-- The visit in progress ends with a miss; a visit whose station is gone has been abandoned (R11, R15). -/
def State.missVisit (s : State) : State :=
  match s.bus.visiting with
  | none => s
  | some t =>
    match s.station? t with
    | some st => (s.miss t st).endVisit
    | none => s.endVisit

end Sys2Proof.Machine
end

