-- ==== Sys2Proof/Machine/BusEvents.lean ====
section
/-!
DEFINITION. The station bus: STATION_VISIT, POLL_REPLY, POLL_REPLY_INVALID, BUS_BYTE_GAP_TIMEOUT, POLL_REPLY_TIMEOUT.
-/
namespace Sys2Proof.Machine

/-- The scanner begins its next visit, if no visit is in progress and some station is defined (R11). -/
def State.stationVisit (s : State) : State :=
  match s.bus.visiting, s.nextStation with
  | none, some t =>
    match s.station? t with
    | some st => s.visit t st
    | none => s
  | _, _ => s

/-- STATION_VISIT (R11). -/
def execStationVisit (s : State) : Host.Outcome State Fault Refusal := .next s.stationVisit

/-- The bytes of a reply to the visit in progress: a valid reply is taken, any other ends the visit with a miss, and with no visit in progress a reply
is ignored (R11, R14, R15, R17). The reply is judged by the definition in force when it arrives, so one that follows a redefinition of the station
is a miss unless it fits the new address and slot count (DESIGN CHOICE, assumption 32, unsafe). -/
def State.pollReply (bytes : List Byte) (s : State) : State :=
  match s.bus.visiting with
  | none => s
  | some t =>
    match s.station? t with
    | none => s.endVisit
    | some st =>
      match readReply st.node st.slots.length bytes with
      | some r => s.takeReply t st r
      | none => s.missVisit

/-- POLL_REPLY (R17). -/
def execPollReply (bytes : List Byte) (s : State) : Host.Outcome State Fault Refusal := .next (s.pollReply bytes)

/-- POLL_REPLY_INVALID (R15): a miss; the content is discarded. -/
def execPollReplyInvalid (s : State) : Host.Outcome State Fault Refusal := .next s.missVisit

/-- BUS_BYTE_GAP_TIMEOUT (R14): the reply is invalid, and the visit ends with a miss. -/
def execBusByteGapTimeout (s : State) : Host.Outcome State Fault Refusal := .next s.missVisit

/-- POLL_REPLY_TIMEOUT (R15): no start byte in time, and the visit ends with a miss. -/
def execPollReplyTimeout (s : State) : Host.Outcome State Fault Refusal := .next s.missVisit

end Sys2Proof.Machine
end

