-- ==== Sys2Proof/Machine/Replies.lean ====
section
/-!
DEFINITION. What replies carry: the container status record (R49), the station record (R4), list entry blocks (R122), the manifest (R125), event
records (R174), the TUNING items (R186), IDENT and STATUS (R187). Items that a rule lists in words take the forms of R185
(DEDUCED, assumption 14, unsafe).
-/
namespace Sys2Proof.Machine

/-! ### The container status record (R49) -/

/-- The setup code of offset 1. -/
def Container.setupCode (k : Container) : Nat :=
  match k.latched, k.written with
  | none, none => 0
  | some _, none => 1
  | some _, some _ => 2
  | none, some _ => 3

/-- The in-flight measurement is tagged for verification. -/
def Estimator.tagged (e : Estimator) : Bool := (e.flight.bind Flight.tag).isSome

/-- Offset 2. -/
def Container.estimatorByte (k : Container) : Byte :=
  byteOf (k.est.sensor.code +
    4 * ofBits [k.est.sensor == .faulty, k.est.smoothed.isSome, k.est.baseline.isSome, k.est.flight.isSome, k.marker.isSome, k.est.tagged])

/-- A band, 255 for UNKNOWN and for no candidate. -/
def bandByte (b : Option Band) : Byte := byteOf ((b.map Band.number).getD 255)

/-- Offsets 24 to 33: the last accepted sample. With none, d and q read 65535 and 255 as the table of R49 says, with no latched setup too (DESIGN
CHOICE, assumption 36, unsafe); the rest is zero with no latched setup and not stated with one (assumption 24). -/
def Container.sampleBytes (k : Container) : List Byte :=
  match k.est.last with
  | some x => bytesOf 2 x.distance ++ [byteOf x.quality] ++ bytesOf 2 x.level ++ bytesOf 2 x.day ++ bytesOf 3 x.second
  | none =>
    bytesOf 2 65535 ++ [255] ++
      (if k.latched.isSome then [27, 28, 29, 30, 31, 32, 33].map Config.noSampleByte else List.replicate 7 0)

/-- Offsets 39 to 55 (R49), bits 6 and 7 of the last 0 (DESIGN CHOICE, assumption 41, unsafe). -/
def Setup.bytes (x : Setup) : List Byte :=
  bytesOf 2 x.emptyDistance ++ bytesOf 2 x.fullDistance ++ [byteOf x.perWeight, byteOf x.alpha, byteOf x.confirmations] ++
    bytesOf 2 x.tNotice ++ bytesOf 2 x.tFull ++ bytesOf 2 x.tLock ++ [byteOf x.hysteresis] ++ bytesOf 2 x.tEmpty ++
    [byteOf (x.passNotice.code + 4 * x.passFull.code + 16 * x.passLock.code)]

/-- Offset 35: the phase, 0 for no operation. -/
def phaseByte (ph : Option Phase) : Byte := byteOf ((ph.map Phase.code).getD 0)

/-- Offset 37: reason and claim state, 0 for no entry. -/
def entryByte (e : Option Entry) : Byte :=
  match e with
  | some e => byteOf (e.reason.code + if e.claimed then 8 else 0)
  | none => 0

/-- The container status record of container `c` (R49). Offset 22 reads 65535 for a stopped timer, with no latched setup too (DESIGN CHOICE,
assumption 36, unsafe); a bit that the table does not name is 0 (DESIGN CHOICE, assumption 41, unsafe). -/
def State.statusRecord (s : State) (c : Nat) (k : Container) : List Byte :=
  [byteOf c, byteOf (k.fraction.code + 8 * k.setupCode), k.estimatorByte, byteOf k.est.rejected] ++
    bytesOf 2 (k.est.smoothed.getD 0) ++ bytesOf 2 k.est.credit ++ bytesOf 2 k.est.credited ++ bytesOf 2 k.est.level ++
    bytesOf 2 k.est.rate ++ bytesOf 2 (k.est.baseline.getD 0) ++
    [byteOf k.est.forecast, bandByte k.est.band, bandByte k.est.candidate, byteOf k.est.count] ++
    bytesOf 2 k.est.deposits ++ bytesOf 2 (k.est.periodic.getD 65535) ++ k.sampleBytes ++
    [byteOf (k.hatch.state.code + 4 * k.hatch.force.code), phaseByte (s.phaseOf c), byteOf (blockCode k.blocked), entryByte (s.entry? c),
      k.flags.byte] ++
    (match k.latched with
    | some x => x.bytes
    | none => List.replicate 17 0)

/-! ### Station records (R4) -/

/-- One slot of a station record: the accepted contacts and the outputs of the image, the outputs with the bytes that R10 gives them in an ACT
(R4; DEDUCED, assumption 40, unsafe). -/
def Container.stationBytes (k : Container) : List Byte :=
  (k.contacts.map fun x => acceptedByte x.accepted).toList ++ [k.outputs.lock.byte, k.outputs.latch.byte, k.outputs.lamp.byte]

/-- The record of station `t` (R4): defined as yes or no, fractions with the codes of STATION_DEFINE (DEDUCED, assumption 14, unsafe). -/
def State.stationRecord (s : State) (t : Nat) : List Byte :=
  match s.station? t with
  | none => [byteOf t, yesNo false]
  | some st =>
    [byteOf t, yesNo true, byteOf st.node, byteOf st.slots.length] ++ st.slots.map (fun k => byteOf k.fraction.code) ++
      [Config.replyCode (if st.online then .online else .offline), byteOf st.misses, yesNo (st.acknowledged == some st.revision)] ++
      st.slots.flatMap Container.stationBytes ++
      [acceptedByte st.inputs.door.accepted, acceptedByte st.inputs.flood.accepted, acceptedByte st.inputs.aux.accepted,
        yesNo st.flags.door, yesNo st.flags.flood, yesNo st.flags.aux, yesNo st.flags.offline]

/-! ### The collection list and rounds (R122, R125, R127) -/

/-- A property of a container in use, and a default for one that is not. -/
def State.ofContainer {α : Type} (s : State) (c : Nat) (default : α) (f : Container → α) : α :=
  match s.container? c with
  | some k => f k
  | none => default

/-- An entry block of LIST_READ (R122); bit 7 of its second byte is 0 (DESIGN CHOICE, assumption 41, unsafe). -/
def State.entryBlock (s : State) (e : Entry) : List Byte :=
  let c := e.container
  [byteOf c,
    byteOf (e.reason.code + 8 * ofBits [e.claimed, s.ofContainer c false fun k => k.est.sensor == .faulty,
      s.ofContainer c false fun k => k.blocked.isSome, (s.opOf c).isSome])] ++
    bytesOf 2 e.day ++ bytesOf 3 e.second ++ [byteOf e.forecast] ++ bytesOf 2 (s.ofContainer c 0 fun k => k.est.credited) ++
    bytesOf 2 (s.levelOf c) ++ [bandByte (s.ofContainer c none fun k => k.est.band)]

/-- The round state as a reply carries it. -/
def State.roundCode (s : State) : Byte := Config.replyCode (if s.round.isSome then .roundOpen else .roundClosed)

/-- The data of LIST_READ. -/
def State.listData (s : State) : List Byte :=
  [byteOf s.collection.length, s.roundCode] ++ bytesOf 2 ((s.round.map fun r => r.stations.toNat).getD 0) ++
    [byteOf ((s.round.map Round.capacity).getD 0)] ++ s.collection.flatMap s.entryBlock

/-- The three bytes of a manifest entry: container, then L in the lower ten bits and the reason in the upper three
(R125); the three bits between are 0 (DESIGN CHOICE, assumption 41, unsafe). -/
def State.manifestEntry (s : State) (e : Entry) : List Byte :=
  byteOf e.container :: bytesOf 2 (8192 * e.reason.code + s.levelOf e.container % 1024)

/-- The manifest of the entries claimed, in claim order. -/
def State.manifest (s : State) (es : List Entry) : List Byte := byteOf es.length :: es.flatMap s.manifestEntry

/-- The round summary. -/
def Round.summary (r : Round) (neverStarted : Nat) : List Byte :=
  bytesOf 2 r.claims ++ bytesOf 2 r.nEmptied ++ bytesOf 2 r.nPartial ++ bytesOf 2 r.nAbandoned ++ bytesOf 2 r.nFault ++ bytesOf 2 neverStarted

/-! ### Event records (R174) -/

/-- A card id, all zero for none. -/
def idBytes (id : Option CardId) : List Byte := bytesOf 7 ((id.map BitVec.toNat).getD 0)

/-- One container's share of an INTEGRITY body (R174); bits 5 to 7 are 0 (DESIGN CHOICE, assumption 41, unsafe). -/
def Breach.bytes (b : Breach) : List Byte :=
  [byteOf b.container, byteOf (ofBits b.mismatch.toList), byteOf (ofBits b.accepted.toList)]

/-- How an operation was started: the start kind, then the card id. -/
def StartBy.bytes : StartBy → List Byte
  | .card id => 0 :: idBytes (some id)
  | .host => 1 :: idBytes none

/-- The body of an event record. -/
def EventBody.bytes : EventBody → List Byte
  | .restarted kind mode => [byteOf kind.code, byteOf mode.code]
  | .levelPassage threshold upward level => [byteOf threshold, if upward then 0 else 1] ++ bytesOf 2 level
  | .overfill distance => bytesOf 2 distance
  | .sensorFault rejected => [byteOf rejected]
  | .sensorRecovered level => bytesOf 2 level
  | .admissionDenied card code => idBytes (some card) ++ [byteOf code.value]
  | .cardWatch card action => idBytes (some card) ++ [byteOf action.code]
  | .hatchHeldOpen card => idBytes card ++ [yesNo card.isSome]
  | .emptyingDone outcome phase start attempts verified deposits =>
    [byteOf outcome.code, byteOf phase.code] ++ start.bytes ++ [byteOf attempts] ++ bytesOf 2 (verified.getD 65535) ++ bytesOf 2 deposits
  | .listEntry reason previous claimed forecast level =>
    [byteOf reason.code, byteOf ((previous.map Reason.code).getD 0), yesNo claimed, byteOf forecast] ++ bytesOf 2 level
  | .integrity breaches => byteOf breaches.length :: breaches.flatMap Breach.bytes
  | .actuatorFault actuator expected accepted =>
    [match actuator with
      | .lock => 0
      | .latch => 1, yesNo expected, acceptedByte accepted]
  | .input accepted trigger => [yesNo accepted, byteOf trigger.code]
  | .stationOffline => []
  | .stationOnline => []
  | .serviceBarred failures => [byteOf failures]

/-- Action result codes. -/
def ActionResult.code : ActionResult → Nat
  | .none => 0
  | .done => 1
  | .incomplete => 2

/-- A record as EVENTS_FETCH carries it (R174); the upper bits of the slot byte are 0 (DESIGN CHOICE, assumption 41, unsafe). -/
def Record.bytes (r : Record) : List Byte :=
  [byteOf r.event.cls.code, byteOf (r.event.priority + 8 * r.result.code)] ++ bytesOf 2 r.seq.toNat ++ bytesOf 2 r.event.day ++
    bytesOf 3 r.event.second ++
    [byteOf (r.event.station.getD 255), byteOf (r.event.container.getD 255), byteOf r.notEngaged.toNat,
      byteOf r.event.body.bytes.length] ++
    r.event.body.bytes

/-! ### TUNING (R186) -/

/-- The range of a TUNING item; `none` for a code that names no item. -/
def tuningRange (code : Nat) : Option (Nat × Nat) :=
  match code with
  | 1 => some (60, 7200)
  | 2 => some (5, 120)
  | 3 => some (5, 60)
  | 4 => some (30, 600)
  | 5 => some (60, 900)
  | 6 => some (1, 10)
  | 7 => some (0, 254)
  | 8 => some (0, 7)
  | _ => none

/-- A value brought into its range. -/
def clampTo (r : Nat × Nat) (v : Nat) : Nat := if v < r.1 then r.1 else if r.2 < v then r.2 else v

/-- Give an item a value. -/
def Tuning.put (code v : Nat) (x : Tuning) : Tuning :=
  match code with
  | 1 => { x with interval := v }
  | 2 => { x with postDeposit := v }
  | 3 => { x with releaseWindow := v }
  | 4 => { x with depositTime := v }
  | 5 => { x with liftWait := v }
  | 6 => { x with settleTime := v }
  | 7 => { x with horizon := v }
  | 8 => { x with attention := v }
  | _ => x

/-- The pairs of a TUNING request, in order. -/
def tuningPairs (ps : List Byte) : List (Nat × Nat) :=
  (List.range (ps.length / 3)).map fun i => (byteAt ps (3 * i), field ps (3 * i + 1) 2)

/-- Every pair applied in order, each clamped. -/
def Tuning.apply (pairs : List (Nat × Nat)) (x : Tuning) : Tuning :=
  pairs.foldl (fun x p =>
    match tuningRange p.1 with
    | some r => x.put p.1 (clampTo r p.2)
    | none => x) x

/-- Some value is changed by the clamping. -/
def clampsAny (pairs : List (Nat × Nat)) : Bool :=
  pairs.any fun p =>
    match tuningRange p.1 with
    | some r => clampTo r p.2 != p.2
    | none => false

/-- Every item in code order, its code (DEDUCED, assumption 14, unsafe) and its value: two bytes for an item whose range passes 255, one for the others
(R185, R186). -/
def Tuning.bytes (x : Tuning) : List Byte :=
  [1] ++ bytesOf 2 x.interval ++ [2, byteOf x.postDeposit] ++ [3, byteOf x.releaseWindow] ++ [4] ++ bytesOf 2 x.depositTime ++
    [5] ++ bytesOf 2 x.liftWait ++ [6, byteOf x.settleTime] ++ [7, byteOf x.horizon] ++ [8, byteOf x.attention]

/-! ### IDENT and STATUS (R187) -/

/-- The data of IDENT: the name in ASCII, the revision, the eight capacities, the port, the service port state. -/
def State.identData (p : Port) (s : State) : List Byte :=
  [0x57, 0x5A, 0x43, 0x36, 0x34, 3, 16, 64] ++ bytesOf 2 Config.maxCards ++
    [byteOf Config.maxWatch, byteOf Config.maxWaiting, 64, 4, byteOf Config.maxEvents, byteOf (portCode p), byteOf s.grant.state.code]

/-- The number of OFFLINE stations. -/
def State.offlineCount (s : State) : Nat :=
  (s.definedStations.filter fun t =>
    match s.station? t with
    | some st => !st.online
    | none => false).length

/-- The number of BLOCKED containers. -/
def State.blockedCount (s : State) : Nat := (s.containersInUse.filter fun c => s.ofContainer c false fun k => k.blocked.isSome).length

/-- The data of STATUS. -/
def State.statusData (s : State) : List Byte :=
  [byteOf s.mode.code, byteOf s.startKind.code] ++ bytesOf 2 s.clock.day ++ bytesOf 3 s.clock.second ++ [yesNo s.clock.unset] ++
    bytesOf 2 s.currentPeriod ++
    [s.roundCode, byteOf s.opCount, yesNo s.directory.edit.isSome, byteOf ((s.directory.edit.map fun e => portCode e.port).getD 255),
      byteOf s.waiting.length, byteOf s.report.queue.length, yesNo s.report.overflowed, yesNo s.report.attn, byteOf s.grant.state.code,
      byteOf s.grant.failures, yesNo s.grant.code.isSome, byteOf s.definedStations.length, byteOf s.offlineCount,
      byteOf s.containersInUse.length, byteOf s.blockedCount]

end Sys2Proof.Machine
end

