-- ==== Sys2Proof/Machine/DirectoryRequests.lean ====
section
/-!
DEFINITION. The requests of the card directory and the watch list (chapter 4), and the record steps of an edit.
-/
namespace Sys2Proof.Machine

/-! ### Edits (R75 to R79) -/

/-- Begin an edit from a port: the count is 1 to 8 (RANGE), no edit from the other port is in flight (BUSY); the count is tested first (DESIGN CHOICE,
assumption 37, unsafe). The reply waits for the last record step. -/
def State.beginEdit (p : Port) (kind : Byte) (count : Nat) (work : EditWork) (s : State) : State :=
  if count = 0 ∨ 8 < count then s.reply p kind .range []
  else if s.directory.editElsewhere p then s.reply p kind .busy []
  else s.updDirectory fun d => { d with edit := some { port := p, work := work, results := [] } }

/-- CARD_PUT (R75). -/
def execCardPut (p : Port) (f : Frame) (s : State) : Host.Outcome State Fault Refusal :=
  .next (s.takeRequest p 23 f (State.beginEdit p 23 (byteAt f.params 0) (.put (cardFormsOf f.params))))

/-- CARD_DELETE (R77). -/
def execCardDelete (p : Port) (f : Frame) (s : State) : Host.Outcome State Fault Refusal :=
  .next (s.takeRequest p 24 f (State.beginEdit p 24 (byteAt f.params 0) (.delete (cardIdsOf f.params))))

/-- No record of the edit is left. -/
def EditWork.finished : EditWork → Bool
  | .put todo => todo.isEmpty
  | .delete todo => todo.isEmpty

/-- The state after a record step: the edit goes on, or it ends, the reply with the per-record results goes to its port, and the queued
presentations are served (R78, R91). -/
def State.afterStep (kind : Byte) (e : Edit) (s : State) : State :=
  if e.work.finished then
    ((s.updDirectory fun d => { d with edit := none }).reply e.port kind .ok (e.results.map ResultCode.value)).serveWaiting
  else s.updDirectory fun d => { d with edit := some e }

/-- One CARD_PUT record step (R76). -/
def State.putStep (s : State) : State :=
  match s.directory.edit with
  | some { port := p, work := .put (x :: rest), results := rs } =>
    (s.updDirectory fun d => { d with cards := putCards s.currentPeriod x d.cards }).afterStep 23
      { port := p, work := .put rest, results := rs ++ [putResult x s.directory.cards] }
  | _ => s

/-- CARD_PUT_RECORD_STEP (R76): the next record step of the CARD_PUT in flight; without one, nothing (DESIGN CHOICE, assumption 30, safe). -/
def execCardPutRecordStep (s : State) : Host.Outcome State Fault Refusal := .next s.putStep

/-- One CARD_DELETE record step (R77). -/
def State.deleteStep (s : State) : State :=
  match s.directory.edit with
  | some { port := p, work := .delete (id :: rest), results := rs } =>
    (s.updDirectory fun d => { d with cards := deleteCards id d.cards }).afterStep 24
      { port := p, work := .delete rest, results := rs ++ [deleteResult id s.directory.cards] }
  | _ => s

/-- CARD_DELETE_RECORD_STEP (R77): the next record step of the CARD_DELETE in flight; without one, nothing (DESIGN CHOICE, assumption 30,
safe). -/
def execCardDeleteRecordStep (s : State) : Host.Outcome State Fault Refusal := .next s.deleteStep

/-! ### Reading (R82, R83) -/

/-- The owner's part of CARD_GET (R82). -/
def State.cardGet (p : Port) (id : CardId) (s : State) : State :=
  if s.directory.editElsewhere p then s.reply p 21 .busy []
  else
    let s' := s.updDirectory (Directory.setCursor p (some id))
    match s.card? id with
    | some r => s'.reply p 21 .ok r.bytes
    | none => s'.reply p 21 .notFound []

/-- CARD_GET (R82). -/
def execCardGet (p : Port) (f : Frame) (s : State) : Host.Outcome State Fault Refusal :=
  .next (s.takeRequest p 21 f (State.cardGet p (cardIdAt f.params 0)))

/-- The owner's part of CARD_NEXT (R83); its count is tested before BUSY (DESIGN CHOICE, assumption 37, unsafe). -/
def State.cardNext (p : Port) (n : Nat) (s : State) : State :=
  if n = 0 ∨ 8 < n then s.reply p 22 .range []
  else if s.directory.editElsewhere p then s.reply p 22 .busy []
  else
    let found := s.directory.nextCards p n
    match found.getLast? with
    | none => s.reply p 22 .endOfWalk []
    | some last =>
      (s.updDirectory (Directory.setCursor p (some last.id))).reply p 22 .ok
        (bytesOf 2 s.directory.cards.length ++ [byteOf found.length] ++ found.flatMap Card.bytes)

/-- CARD_NEXT (R83). -/
def execCardNext (p : Port) (f : Frame) (s : State) : Host.Outcome State Fault Refusal :=
  .next (s.takeRequest p 22 f (State.cardNext p (byteAt f.params 0)))

/-! ### The watch list (R85, R86) -/

/-- The owner's part of WATCH_SET (R85). -/
def State.watchSet (p : Port) (id : CardId) (code : Nat) (s : State) : State :=
  match watchActionOfCode code with
  | none => s.reply p 25 .range []
  | some a => ({ s with watch := watchSetEntries id a s.watch }).reply p 25 (watchSetResult id s.watch) []

/-- WATCH_SET (R85). -/
def execWatchSet (p : Port) (f : Frame) (s : State) : Host.Outcome State Fault Refusal :=
  .next (s.takeRequest p 25 f (State.watchSet p (cardIdAt f.params 0) (byteAt f.params 7)))

/-- The owner's part of WATCH_CLEAR (R86). -/
def State.watchClear (p : Port) (id : CardId) (s : State) : State :=
  if s.watch.any fun e => e.id == id then ({ s with watch := s.watch.filter fun e => e.id != id }).reply p 26 .ok []
  else s.reply p 26 .notFound []

/-- WATCH_CLEAR (R86). -/
def execWatchClear (p : Port) (f : Frame) (s : State) : Host.Outcome State Fault Refusal :=
  .next (s.takeRequest p 26 f (State.watchClear p (cardIdAt f.params 0)))

/-- The owner's part of WATCH_LIST (R86). -/
def State.watchRead (p : Port) (s : State) : State :=
  s.reply p 27 .ok (byteOf s.watch.length :: s.watch.flatMap WatchEntry.bytes)

/-- WATCH_LIST (R86). -/
def execWatchList (p : Port) (f : Frame) (s : State) : Host.Outcome State Fault Refusal := .next (s.takeRequest p 27 f (State.watchRead p))

/-! ### FRACTION_RULES (R67) -/

/-- The owner's part of FRACTION_RULES (R67). -/
def State.setFractionRules (p : Port) (charged period : Nat) (s : State) : State :=
  if 32 ≤ charged ∨ period = 0 ∨ 31 < period then s.reply p 13 .range []
  else
    (s.updDirectory fun d => { d with charged := BitVec.ofNat 5 charged, periodLength := period }).reply p 13 .ok
      [byteOf charged, byteOf period]

/-- FRACTION_RULES (R67). -/
def execFractionRules (p : Port) (f : Frame) (s : State) : Host.Outcome State Fault Refusal :=
  .next (s.takeRequest p 13 f (State.setFractionRules p (byteAt f.params 0) (byteAt f.params 1)))

end Sys2Proof.Machine
end

