-- ==== Sys2Proof/Machine/ResetClock.lean ====
section
/-!
DEFINITION. The two resets and the district clock: COLD_START, WARM_START, CLOCK_TICK, HOUR_BOUNDARY.
-/
namespace Sys2Proof.Machine

/-! ### Cold start -/

/-- COLD_START (R189): every block in its cold-start state. The queue of waiting commands is not the part's. -/
def execColdStart (s : State) : Host.Outcome State Fault Refusal := .next { State.reset with pending := s.pending }

/-! ### Warm start -/

/-- Every bound action in flight is completed, its unended parts not engaged, and its held event posted (R169). -/
def State.abandonActions (s : State) : State :=
  State.completeActions
    { s with actions := s.actions.map fun a => { a with parts := a.parts.map fun p => { p with state := p.state.giveUp } } }

/-- A container at a warm start that resumes this mode (R22, R27, R112, R151, R152; in CONFIGURE a seating check stays as it was, DEDUCED, assumption
17, unsafe). -/
def Container.warm (mode : Mode) (k : Container) : Container :=
  { k with
    hatch := .rest
    est := { k.est with flight := none, postDeposit := none, periodic := none }
    settleHL := .deferred
    settleLL := .deferred
    seatingCheck := k.seatingCheck || mode != .configure
    outputs := .rest
    lampHold := none
    marker := none
    contacts := .all .cleared }

/-- A station at a warm start that resumes this mode (R22, R152): the revision advances once if the rebuilding alters the image. -/
def Station.warm (mode : Mode) (st : Station) : Station :=
  { st with
    online := true
    misses := 0
    inputs := .all .cleared
    revision := if st.slots.any fun k => k.outputs != .rest then st.revision + 1 else st.revision
    acknowledged := none
    resend := true
    status := if mode = .configure then .suspended else .unarmed
    slots := st.slots.map (Container.warm mode) }

/-- The service port's gate at a warm start (R195). -/
def Grant.warm (g : Grant) : Grant :=
  { g with state := if g.state = .granted then .restricted else g.state, inactivity := none }

/-- The directory at a warm start (R74, R80, R81). -/
def Directory.warm (d : Directory) : Directory :=
  { d with
    cards := d.cards.map fun r => { r with reserved := 0 }
    cursorGateway := none
    cursorService := none
    edit := none }

/-- Every block's warm-start state (R22, R27, R74, R80, R81, R91, R112, R113, R128, R150, R152, R188, R189, R195). -/
def State.warmBlocks (s : State) : State :=
  { s with
    startKind := .warm
    stations := s.stations.map (Option.map (Station.warm s.mode))
    bus := { visiting := none, last := none, sent := [] }
    directory := s.directory.warm
    waiting := []
    round := none
    ops := s.ops.map fun _ => none
    gateway := .idle
    service := .idle
    grant := s.grant.warm }

/-- The warm start (R188): held events posted, every block reset, the estimator's schedule entered outside CONFIGURE (R28), RESTARTED(WARM)
posted last (R179). -/
def State.warmStart (s : State) : State :=
  let s := s.abandonActions.warmBlocks.releaseClaims
  let s := if s.mode = .configure then s else s.startSchedule
  s.post .restarted none none (.restarted .warm s.mode)

/-- WARM_START (R188). -/
def execWarmStart (s : State) : Host.Outcome State Fault Refusal := .next s.warmStart

/-! ### The clock -/

/-- One second of the clock; reaching a multiple of 3600 makes an hour-boundary notice due (R6, R7). -/
def Clock.tick (k : Clock) : Clock :=
  let second := if k.second + 1 < 86400 then k.second + 1 else 0
  let day := if k.second + 1 < 86400 then k.day else if k.day + 1 ≤ 65535 then k.day + 1 else 0
  { k with day := day, second := second, boundaryDue := k.boundaryDue || second % 3600 == 0 }

/-- One second of an interval timer (section 1.2); at 0 it waits for its expiry to be taken (DEDUCED, assumption 3, safe). -/
def tickTimer (t : Timer) : Timer := t.map fun r => r - 1

/-- One second of a settle window. -/
def Settle.tick : Settle → Settle
  | .settling r => .settling (r - 1)
  | x => x

/-- One second of a container's timers. -/
def Container.tick (k : Container) : Container :=
  { k with
    est :=
      { k.est with
        flight := k.est.flight.map fun x => { x with timeout := x.timeout - 1 }
        periodic := tickTimer k.est.periodic
        postDeposit := tickTimer k.est.postDeposit }
    hatch := { k.hatch with window := tickTimer k.hatch.window, deposit := tickTimer k.hatch.deposit }
    settleHL := k.settleHL.tick
    settleLL := k.settleLL.tick
    lampHold := tickTimer k.lampHold }

/-- One second of a confirmation window. -/
def PartState.tick : PartState → PartState
  | .window r => .window (r - 1)
  | x => x

/-- One second of every interval timer (section 1.2). -/
def State.tickTimers (s : State) : State :=
  { s with
    stations := s.stations.map (Option.map fun st => { st with slots := st.slots.map Container.tick })
    ops := s.ops.map (Option.map fun op => { op with timer := tickTimer op.timer })
    actions := s.actions.map fun a => { a with parts := a.parts.map fun p => { p with state := p.state.tick } }
    grant := { s.grant with inactivity := tickTimer s.grant.inactivity } }

/-- CLOCK_TICK (R6). -/
def execClockTick (s : State) : Host.Outcome State Fault Refusal := .next { s.tickTimers with clock := s.clock.tick }

/-- Stage 4 and the forecast evaluation of one container (R45, R118). -/
def State.hourOf (c : Nat) (s : State) : State :=
  match (s.container? c).bind Container.latched with
  | none => s
  | some x =>
    let s := s.updEst c (Estimator.stage4 x)
    s.forecastEvaluation c (s.forecastOf c)

/-- HOUR_BOUNDARY (R7): the notice the counting has made due, taken by every container with a latched setup. Without one due there is no boundary
(DESIGN CHOICE, assumption 4, unsafe). The containers take it in ascending number, stage 4 and evaluation one container after another (DESIGN CHOICE,
assumption 33, unsafe). -/
def State.hourBoundary (s : State) : State :=
  if s.clock.boundaryDue then forEach s.containersInUse State.hourOf { s with clock := { s.clock with boundaryDue := false } }
  else s

/-- HOUR_BOUNDARY (R7, R45, R118). -/
def execHourBoundary (s : State) : Host.Outcome State Fault Refusal := .next s.hourBoundary

end Sys2Proof.Machine
end

