-- ==== Sys2Proof/Machine/TimerEvents.lean ====
section
/-!
DEFINITION. The expiries of the interval timers. An expiry is taken when its timer is running; an expiry that finds its timer stopped has no effect
(R137). It is taken whatever the timer shows (DESIGN CHOICE, assumption 3, safe).
-/
namespace Sys2Proof.Machine

/-- The lamp hold expires: the lamp is OFF in the image (R21). -/
def State.lampHoldExpiry (c : Nat) (s : State) : State :=
  match (s.container? c).bind Container.lampHold with
  | none => s
  | some _ => (s.changeImage c fun x => { x with lamp := .off }).updContainer c fun k => { k with lampHold := none }

/-- LAMP_HOLD_EXPIRY (R21). -/
def execLampHoldExpiry (c : Nat) (s : State) : Host.Outcome State Fault Refusal := .next (s.lampHoldExpiry c)

/-- The periodic timer expires: it restarts and a measurement is requested (R29). -/
def State.periodicExpiry (c : Nat) (s : State) : State :=
  match (s.container? c).bind fun k => k.est.periodic with
  | none => s
  | some _ => (s.updEst c fun e => { e with periodic := some s.tuning.interval }).requestMeasurement c none

/-- PERIODIC_TIMER_EXPIRY (R29). -/
def execPeriodicTimerExpiry (c : Nat) (s : State) : Host.Outcome State Fault Refusal := .next (s.periodicExpiry c)

/-- The post-deposit timer expires: it stops and a measurement is requested (R30). -/
def State.postDepositExpiry (c : Nat) (s : State) : State :=
  match (s.container? c).bind fun k => k.est.postDeposit with
  | none => s
  | some _ => (s.updEst c fun e => { e with postDeposit := none }).requestMeasurement c none

/-- POST_DEPOSIT_TIMER_EXPIRY (R30). -/
def execPostDepositTimerExpiry (c : Nat) (s : State) : Host.Outcome State Fault Refusal := .next (s.postDepositExpiry c)

/-- The echo timeout expires, and a verification attempt is answered (R34, R142). -/
def State.echoTimeout (c : Nat) (s : State) : State := (s.takeEchoTimeout c).1.answered c (s.takeEchoTimeout c).2

/-- ECHO_TIMEOUT (R34). -/
def execEchoTimeout (c : Nat) (s : State) : Host.Outcome State Fault Refusal := .next (s.echoTimeout c)

/-- The release window of a RELEASED hatch expires (R102). -/
def State.releaseWindowExpiry (c : Nat) (s : State) : State :=
  match s.container? c with
  | none => s
  | some k => if k.hatch.state = .released ∧ k.hatch.window.isSome then s.lockHatch c k.hatch else s

/-- RELEASE_WINDOW_EXPIRY (R102). -/
def execReleaseWindowExpiry (c : Nat) (s : State) : Host.Outcome State Fault Refusal := .next (s.releaseWindowExpiry c)

/-- The deposit timer of an OPEN hatch expires: flag and event, and the timer stays stopped (R104). -/
def State.depositTimerExpiry (c : Nat) (s : State) : State :=
  match s.container? c with
  | none => s
  | some k =>
    if k.hatch.state = .opened ∧ k.hatch.deposit.isSome then
      (s.updContainer c fun k =>
        { k with hatch := { k.hatch with deposit := none }, flags := { k.flags with hatchHeldOpen := true } }).raiseAt .hatchHeldOpen c
        (.hatchHeldOpen (k.hatch.admission.map Admission.card))
    else s

/-- DEPOSIT_TIMER_EXPIRY (R104). -/
def execDepositTimerExpiry (c : Nat) (s : State) : Host.Outcome State Fault Refusal := .next (s.depositTimerExpiry c)

/-- The operation of container `c` is in this phase with its phase timer running. -/
def State.phaseTimerRuns (s : State) (c : Nat) (ph : Phase) : Bool :=
  match s.opOf c with
  | some op => op.phase == ph && op.timer.isSome
  | none => false

/-- LIFT_WAIT_EXPIRY (R137): the operation ends ABANDONED. -/
def execLiftWaitExpiry (c : Nat) (s : State) : Host.Outcome State Fault Refusal :=
  .next (if s.phaseTimerRuns c .unlatched then s.endOperation c .abandoned else s)

/-- LIFTED_TIMER_EXPIRY (R138): the operation ends FAULT. -/
def execLiftedTimerExpiry (c : Nat) (s : State) : Host.Outcome State Fault Refusal :=
  .next (if s.phaseTimerRuns c .lifted then s.endOperation c .fault else s)

/-- ATTEMPT_TIMER_EXPIRY (R141): the next verification attempt is made. -/
def execAttemptTimerExpiry (c : Nat) (s : State) : Host.Outcome State Fault Refusal :=
  .next (if s.phaseTimerRuns c .returned then s.attempt c else s)

/-- The settle state of an actuator's contact. -/
def Container.settleOf (k : Container) : Actuator → Settle
  | .lock => k.settleHL
  | .latch => k.settleLL

/-- The contact of an actuator becomes FAULTED (R160). -/
def Container.setFaulted (a : Actuator) (k : Container) : Container :=
  match a with
  | .lock => { k with settleHL := .faulted }
  | .latch => { k with settleLL := .faulted }

/-- An actuator's contact: HL for the lock, LL for the latch. -/
def PerContact.ofActuator {α : Type} (a : Actuator) (x : PerContact α) : α :=
  match a with
  | .lock => x.hl
  | .latch => x.ll

/-- A window is running. -/
def Settle.running : Settle → Bool
  | .settling _ => true
  | _ => false

/-- A settle window expires without agreement: an actuator fault, in the steps of R160. The event's expected and accepted values are those of the
expiry (DEDUCED, assumption 12, unsafe). -/
def State.settleExpiry (c : Nat) (a : Actuator) (s : State) : State :=
  match s.container? c with
  | none => s
  | some k =>
    if (k.settleOf a).running then
      let expected := ((s.pattern c).ofActuator a).getD true
      let accepted := (k.contacts.ofActuator a).accepted
      let s := s.updContainer c (Container.setFaulted a)
      let s := s.updFlags c fun f => { f with actuatorFault := true }
      let s := s.blockRequest c .actuator
      let s := s.raiseAt .actuatorFault c (.actuatorFault a expected accepted)
      if a = .latch then s.actuatorFaultNotice c else s
    else s

/-- SETTLE_WINDOW_EXPIRY (R160). -/
def execSettleWindowExpiry (c : Nat) (a : Actuator) (s : State) : Host.Outcome State Fault Refusal := .next (s.settleExpiry c a)

/-- A confirmation window expires: its part ends not engaged (R168). -/
def PartState.expire : PartState → PartState
  | .window _ => .notEngaged
  | x => x

/-- CONFIRMATION_WINDOW_EXPIRY (R168, R169): the part ends, and the held event is posted when it was the last. -/
def execConfirmationWindowExpiry (place c : Nat) (s : State) : Host.Outcome State Fault Refusal :=
  .next (State.completeActions { s with actions := s.actions.modify place (HeldAction.updPart c PartState.expire) })

/-- The grant of the service port ends (R194): RESTRICTED, timer stopped, remainder discarded, cursor "before first". -/
def State.endGrant (s : State) : State :=
  ((s.updGrant fun g => { g with state := .restricted, inactivity := none }).dropRemainder .service).updDirectory
    (Directory.setCursor .service none)

/-- INACTIVITY_TIMER_EXPIRY (R194). -/
def execInactivityTimerExpiry (s : State) : Host.Outcome State Fault Refusal :=
  .next (if s.grant.state = .granted ∧ s.grant.inactivity.isSome then s.endGrant else s)

end Sys2Proof.Machine
end

