-- ==== Sys2Proof/Machine/LinkRequests.lean ====
section
/-!
DEFINITION. Events and flags (chapter 9), the ports themselves, operating modes and the service port (chapter 10).
-/
namespace Sys2Proof.Machine

/-! ### EVENTS_FETCH (R177) -/

/-- The report queue after a fetch of up to `n` records: the head removed, the marker cleared, ATTN following (R177, R178). -/
def Report.fetch (level n : Nat) (q : Report) : Report :=
  ({ q with queue := q.queue.drop n, overflowed := false }).withAttn level

/-- The data of an EVENTS_FETCH reply: returned, remaining, the marker as read, the records (R177, R180). -/
def Report.fetchData (n : Nat) (q : Report) : List Byte :=
  [byteOf (q.queue.take n).length, byteOf (q.queue.drop n).length, yesNo q.overflowed] ++ (q.queue.take n).flatMap Record.bytes

/-- The owner's part of EVENTS_FETCH (R177). -/
def State.fetchEvents (p : Port) (n : Nat) (s : State) : State :=
  if n = 0 ∨ 8 < n then s.reply p 8 .range []
  else ({ s with report := s.report.fetch s.tuning.attention n }).reply p 8 .ok (s.report.fetchData n)

/-- EVENTS_FETCH (R177). -/
def execEventsFetch (p : Port) (f : Frame) (s : State) : Host.Outcome State Fault Refusal :=
  .next (s.takeRequest p 8 f (State.fetchEvents p (byteAt f.params 0)))

/-! ### FLAGS_CLEAR (R171) -/

/-- The members of a target set, ascending. -/
def membersOf (n set : Nat) : List Nat := (List.range n).filter fun i => bitOf set i

/-- The owner's part of FLAGS_CLEAR for containers (R171); the flags of a member are sent in the bit order of the selection (DEDUCED, assumption 14,
unsafe). -/
def State.clearContainerFlags (p : Port) (set selection : Nat) (s : State) : State :=
  let cs := membersOf 64 set
  if cs.isEmpty then s.reply p 28 .range []
  else if cs.any fun c => (s.container? c).isNone then s.reply p 28 .notFound []
  else
    (forEach cs (fun c => State.updFlags c (ContainerFlags.clearSelected selection)) s).reply p 28 .ok
      (cs.map fun c => s.ofContainer c 0 fun k => k.flags.byte)

/-- The pending flags of station `t` in one byte, in the bit order of the selection (R171; DEDUCED, assumption 14, unsafe). -/
def State.stationFlagByte (s : State) (t : Nat) : Byte := ((s.station? t).map fun st => st.flags.byte).getD 0

/-- The owner's part of FLAGS_CLEAR for stations (R171); a selection outside the four flags is tested before the members (DESIGN CHOICE, assumption 38,
unsafe). -/
def State.clearStationFlags (p : Port) (set selection : Nat) (s : State) : State :=
  let ts := membersOf 16 set
  if ts.isEmpty ∨ 16 ≤ selection then s.reply p 28 .range []
  else if ts.any fun t => (s.station? t).isNone then s.reply p 28 .notFound []
  else
    (forEach ts (fun t => State.updStation t fun st => { st with flags := st.flags.clearSelected selection }) s).reply p 28 .ok
      (ts.map s.stationFlagByte)

/-- The owner's part of FLAGS_CLEAR, by its target kind (R171, R185). -/
def State.clearFlags (p : Port) (params : List Byte) (s : State) : State :=
  match byteAt params 0 with
  | 0 => s.clearContainerFlags p (field params 1 8) (byteAt params 9)
  | 1 => s.clearStationFlags p (field params 1 2) (byteAt params 3)
  | _ => s.reply p 28 .range []

/-- FLAGS_CLEAR (R171). -/
def execFlagsClear (p : Port) (f : Frame) (s : State) : Host.Outcome State Fault Refusal :=
  .next (s.takeRequest p 28 f (State.clearFlags p f.params))

/-! ### IDENT, STATUS, RESTART (R187, R188) -/

/-- IDENT (R187). -/
def execIdent (p : Port) (f : Frame) (s : State) : Host.Outcome State Fault Refusal :=
  .next (s.takeRequest p 1 f fun s => s.reply p 1 .ok (s.identData p))

/-- STATUS (R187). -/
def execStatus (p : Port) (f : Frame) (s : State) : Host.Outcome State Fault Refusal :=
  .next (s.takeRequest p 2 f fun s => s.reply p 2 .ok s.statusData)

/-- The owner's part of RESTART: the reply, whose end brings the warm start (R188). -/
def State.askRestart (p : Port) (s : State) : State := (s.reply p 4 .ok []).updPort p fun q => { q with restartDue := true }

/-- RESTART (R188). -/
def execRestart (p : Port) (f : Frame) (s : State) : Host.Outcome State Fault Refusal := .next (s.takeRequest p 4 f (State.askRestart p))

/-! ### SET_MODE (R189 to R191) -/

/-- The lowest container in use with neither a latched nor a pending setup (R190). -/
def State.lackingSetup (s : State) : Option Nat :=
  s.containersInUse.find? fun c => s.ofContainer c false fun k => k.latched.isNone && k.written.isNone

/-- Every force state is cancelled (R111), in ascending container number (DESIGN CHOICE, assumption 33, unsafe). -/
def State.cancelForces (s : State) : State := forEach s.containersInUse State.cancelForce s

/-- The latching notice at one container (R26, steps 1 to 4). -/
def Container.latch (k : Container) : Container :=
  let latched := k.written.or k.latched
  let est := match latched with
    | some _ => if k.writtenMarker then k.est.reinitialise else k.est
    | none => k.est
  { k with
    latched := latched
    written := none
    writtenMarker := false
    est := { est with flight := none }
    flags := if k.writtenMarker then k.flags.clearPassages else k.flags }

/-- The containers that leaving CONFIGURE reinitialises. -/
def State.writtenContainers (s : State) : List Nat := s.containersInUse.filter fun c => s.ofContainer c false Container.writtenMarker

/-- One HL or LL when the part leaves CONFIGURE: a DEFERRED one with an accepted value is INCLUDED, and then an INCLUDED one that is not excluded
and differs from its expected value starts a window (R158; a value not yet accepted does not differ, DEDUCED, assumption 28, unsafe). -/
def Settle.onLeave (settleTime : Nat) (masked : Bool) (accepted expected : Option Bool) (x : Settle) : Settle :=
  let x := if x = .deferred ∧ accepted.isSome then .included else x
  match x, accepted, expected with
  | .included, some a, some v => if masked = false ∧ a ≠ v then .settling settleTime else .included
  | y, _, _ => y

/-- The settle states of a container when the part leaves CONFIGURE (R158). -/
def State.leaveSettle (c : Nat) (s : State) : State :=
  let pat := s.pattern c
  let t := s.tuning.settleTime
  s.updContainer c fun k =>
    { k with
      settleHL := k.settleHL.onLeave t k.mask.hl k.contacts.hl.accepted pat.hl
      settleLL := k.settleLL.onLeave t k.mask.ll k.contacts.ll.accepted pat.ll }

/-- The monitor at one station when the part leaves CONFIGURE: an ONLINE one is evaluated, an OFFLINE one stays SUSPENDED (R158). -/
def State.leaveConfigureAt (t : Nat) (s : State) : State :=
  match s.station? t with
  | some st =>
    if st.online then
      let s := forEach (s.containersAt t) State.leaveSettle s
      s.updStation t fun st => { st with status := statusFor (s.stationMatched t) }
    else s
  | none => s

/-- Leaving CONFIGURE, steps 1 to 3 of R190. -/
def State.leaveConfigure (target : Mode) (s : State) : State :=
  let s := { s with mode := target }
  let s := forEach s.containersInUse (fun c => State.updContainer c Container.latch) s
  let s := s.startSchedule
  forEach s.definedStations State.leaveConfigureAt s

/-- What stands in the way of entering CONFIGURE, the first in the order of R191. -/
def State.configureBar (s : State) : Option ReplyCode :=
  if s.containersInUse.any fun c => s.ofContainer c false fun k => k.hatch.state != .locked then some .busyHatch
  else if 0 < s.opCount then some .busyOperation
  else if s.round.isSome then some .busyRound
  else if s.directory.edit.isSome then some .busyEdit
  else none

/-- A container when the part enters CONFIGURE: the estimator's timers stop and the settle windows are cancelled (R28, R158). -/
def Container.enterConfigure (k : Container) : Container :=
  { k with
    est := { k.est with periodic := none, postDeposit := none }
    settleHL := k.settleHL.cancel
    settleLL := k.settleLL.cancel }

/-- A station when the part enters CONFIGURE (R158). -/
def Station.enterConfigure (st : Station) : Station :=
  { st with status := .suspended, slots := st.slots.map Container.enterConfigure }

/-- Entering CONFIGURE (R191). -/
def State.enterConfigure (s : State) : State :=
  let s := if s.mode = .supervise then s.cancelForces else s
  { s with mode := .configure, stations := s.stations.map (Option.map Station.enterConfigure) }

/-- The owner's part of SET_MODE: the target that the frame names, the same mode, and the transitions (R189 to R191; DESIGN CHOICE, assumption 18,
safe). -/
def State.setMode (p : Port) (code : Nat) (s : State) : State :=
  match modeOfCode code with
  | none => s.reply p 3 .range []
  | some target =>
    if s.mode = target then s.reply p 3 .ok []
    else
      match s.mode, target with
      | .configure, _ =>
        match s.lackingSetup with
        | some c => s.reply p 3 .incomplete [byteOf c]
        | none => (s.leaveConfigure target).reply p 3 .ok [byteOf s.writtenContainers.length]
      | _, .configure =>
        match s.configureBar with
        | some why => s.reply p 3 .busy [Config.replyCode why]
        | none => s.enterConfigure.reply p 3 .ok []
      | .supervise, _ => ({ s with mode := target }).cancelForces.reply p 3 .ok []
      | .operate, _ => ({ s with mode := target }).reply p 3 .ok []

/-- SET_MODE to CONFIGURE (R191). -/
def execSetModeConfigure (p : Port) (f : Frame) (s : State) : Host.Outcome State Fault Refusal :=
  .next (s.takeRequest p 3 f (State.setMode p (byteAt f.params 0)))

/-- SET_MODE to OPERATE (R190, R191). -/
def execSetModeOperate (p : Port) (f : Frame) (s : State) : Host.Outcome State Fault Refusal :=
  .next (s.takeRequest p 3 f (State.setMode p (byteAt f.params 0)))

/-- SET_MODE to SUPERVISE (R190, R191). -/
def execSetModeSupervise (p : Port) (f : Frame) (s : State) : Host.Outcome State Fault Refusal :=
  .next (s.takeRequest p 3 f (State.setMode p (byteAt f.params 0)))

/-! ### The ports themselves (R181 to R184) -/

/-- The owner's part of CONTINUE (R184). -/
def State.continueReply (p : Port) (s : State) : State :=
  match (s.port p).remainder with
  | none => s.reply p 7 .range []
  | some r => (s.dropRemainder p).reply p r.kind r.code r.rest

/-- CONTINUE (R184). -/
def execContinueSegment (p : Port) (f : Frame) (s : State) : Host.Outcome State Fault Refusal :=
  .next (s.takeRequest p 7 f (State.continueReply p))

/-- UNKNOWN_REQUEST_KIND (R182): KIND, or CHECK, BARRED or DENIED when an earlier test fails (DESIGN CHOICE for a kind byte
that names a request after all, assumption 31, safe). -/
def execUnknownRequestKind (p : Port) (kind : Byte) (f : Frame) (s : State) : Host.Outcome State Fault Refusal :=
  .next (s.takeRequest p kind f fun s => s.reply p kind .kind [])

/-- BUSY_FRAME_DISCARD (R183): no reply and no effect, whatever the frame held. -/
def execBusyFrameDiscard (p : Port) (_body : List Byte) (s : State) : Host.Outcome State Fault Refusal := .next (s.receiverIdle p)

/-- FRAME_LENGTH_INVALID (R181). -/
def execFrameLengthInvalid (p : Port) (_n : Byte) (s : State) : Host.Outcome State Fault Refusal := .next (s.receiverIdle p)

/-- FRAME_GAP_TIMEOUT (R181). -/
def execFrameGapTimeout (p : Port) (s : State) : Host.Outcome State Fault Refusal := .next (s.receiverIdle p)

/-- The last byte of a reply or segment has been sent: the port is no longer busy, and a RESTART's warm start follows (R183, R188). With no reply
in transmission there is no such byte (DESIGN CHOICE, assumption 5, unsafe). -/
def State.replySent (p : Port) (s : State) : State :=
  if (s.port p).reply.isNone then s
  else if (s.port p).restartDue then s.warmStart
  else s.updPort p fun q => { q with busy := false, reply := none }

/-- REPLY_SENT (R183). -/
def execReplySent (p : Port) (s : State) : Host.Outcome State Fault Refusal := .next (s.replySent p)

/-! ### The service port (R193 to R195) -/

/-- The owner's part of UNLOCK (R193). -/
def State.tryUnlock (p : Port) (given : BitVec 64) (s : State) : State :=
  if s.grant.state = .granted then s.reply p 19 .ok []
  else
    match s.grant.code with
    | none => s.reply p 19 .noCode []
    | some stored =>
      if given = stored then
        (s.updGrant fun g => { g with state := .granted, failures := 0, inactivity := some Config.inactivityTime }).reply p 19 .ok []
      else if s.grant.failures < 2 then (s.updGrant fun g => { g with failures := g.failures + 1 }).reply p 19 .denied []
      else
        ((s.updGrant fun g => { g with failures := 3, state := .barred }).post .serviceBarred none none (.serviceBarred 3)).reply p 19
          .barred []

/-- The service code in a request. -/
def codeOf (ps : List Byte) : BitVec 64 := BitVec.ofNat 64 (field ps 0 8)

/-- UNLOCK (R193). -/
def execUnlock (p : Port) (f : Frame) (s : State) : Host.Outcome State Fault Refusal :=
  .next (s.takeRequest p 19 f (State.tryUnlock p (codeOf f.params)))

/-- SERVICE_END (R194): answered OK, and then the grant ends. -/
def execServiceEnd (p : Port) (f : Frame) (s : State) : Host.Outcome State Fault Refusal :=
  .next (s.takeRequest p 20 f fun s => (s.reply p 20 .ok []).endGrant)

/-- The gate after SERVICE_CLEAR (R195). -/
def Grant.clear (g : Grant) : Grant := { g with failures := 0, state := if g.state = .barred then .restricted else g.state }

/-- The owner's part of SERVICE_CLEAR (R195): the reply gives the port state with the codes of IDENT, R187 (DEDUCED, assumption 14, unsafe). -/
def State.serviceClear (p : Port) (s : State) : State :=
  (s.updGrant Grant.clear).reply p 18 .ok [byteOf s.grant.state.code, byteOf s.grant.failures]

/-- SERVICE_CLEAR (R195). -/
def execServiceClear (p : Port) (f : Frame) (s : State) : Host.Outcome State Fault Refusal :=
  .next (s.takeRequest p 18 f (State.serviceClear p))

/-- The owner's part of SERVICE_CODE: eight bytes store a code, none removes it (R195). -/
def State.serviceCode (p : Port) (params : List Byte) (s : State) : State :=
  (s.updGrant fun g => { g with code := if params.isEmpty then none else some (codeOf params), failures := 0 }).reply p 17 .ok []

/-- SERVICE_CODE (R195). -/
def execServiceCode (p : Port) (f : Frame) (s : State) : Host.Outcome State Fault Refusal :=
  .next (s.takeRequest p 17 f (State.serviceCode p f.params))

end Sys2Proof.Machine
end

