-- ==== Sys2Proof/Machine/ServiceRequests.lean ====
section
/-!
DEFINITION. The requests of normal service and supervision: measurement, forced hatch control, the collection list, rounds, emptying starts,
unblocking.
-/
namespace Sys2Proof.Machine

/-! ### MEASURE_NOW (R32) -/

/-- The operation of container `c` is in UNLATCHED, LIFTED or RETURNED. -/
def State.liftInProgress (s : State) (c : Nat) : Bool :=
  match s.phaseOf c with
  | some ph => ph.holdsCrane
  | none => false

/-- How the reply of MEASURE_NOW names what became of its request (R32); one that R31 drops does not arise from a state the part can reach (DEDUCED,
assumption 29, unsafe). -/
def RequestResult.replyCode : RequestResult → ReplyCode
  | .passed => .measurePassed
  | _ => .measureFolded

/-- The owner's part of MEASURE_NOW (R32), BUSY tested before OFFLINE (DESIGN CHOICE, assumption 42, unsafe). -/
def State.measureNow (p : Port) (params : List Byte) (s : State) : State :=
  s.onContainer p 35 params fun c _ s =>
    if s.liftInProgress c then s.reply p 35 .busy []
    else if s.onlineAt c = false then s.reply p 35 .offline []
    else (s.requestMeasurement c none).reply p 35 .ok [Config.replyCode (s.requestResult c false).replyCode]

/-- MEASURE_NOW (R32). -/
def execMeasureNow (p : Port) (f : Frame) (s : State) : Host.Outcome State Fault Refusal :=
  .next (s.takeRequest p 35 f (State.measureNow p f.params))

/-! ### Forced hatch control (R108 to R111) -/

/-- A force LOCK begins: the withdrawal, then the force state (R108). -/
def State.beginForceLock (c : Nat) (s : State) : State := (s.withdraw c).changeHatch c fun h => { h with force := .lock }

/-- The owner's part of FORCE_LOCK (R108). -/
def State.forceLock (p : Port) (params : List Byte) (s : State) : State :=
  s.onContainer p 36 params fun c k s =>
    if k.hatch.force = .lock then s.reply p 36 .ok [] else (s.beginForceLock c).reply p 36 .ok []

/-- FORCE_LOCK (R108). -/
def execForceLock (p : Port) (f : Frame) (s : State) : Host.Outcome State Fault Refusal :=
  .next (s.takeRequest p 36 f (State.forceLock p f.params))

/-- The hatch record when a force release begins (R109). -/
def HatchRecord.forceReleased (h : HatchRecord) : HatchRecord :=
  { h with state := .released, force := .release, admission := none, window := none, closeAction := .returnToReleased }

/-- A force release begins (R109). -/
def State.beginForceRelease (c : Nat) (s : State) : State := (s.setLock c .release).changeHatch c HatchRecord.forceReleased

/-- The owner's part of FORCE_RELEASE, in the order of its table (R109). -/
def State.forceRelease (p : Port) (params : List Byte) (s : State) : State :=
  s.onContainer p 37 params fun c k s =>
    if (s.opOf c).isSome then s.reply p 37 .busy []
    else if k.hatch.force = .release then s.reply p 37 .ok []
    else if k.hatch.state ≠ .locked then s.reply p 37 .held []
    else if s.onlineAt c = false then s.reply p 37 .offline []
    else (s.beginForceRelease c).reply p 37 .ok []

/-- FORCE_RELEASE (R109). -/
def execForceRelease (p : Port) (f : Frame) (s : State) : Host.Outcome State Fault Refusal :=
  .next (s.takeRequest p 37 f (State.forceRelease p f.params))

/-- The owner's part of FORCE_CANCEL (R111). -/
def State.forceCancel (p : Port) (params : List Byte) (s : State) : State :=
  s.onContainer p 38 params fun c _ s => (s.cancelForce c).reply p 38 .ok []

/-- FORCE_CANCEL (R111). -/
def execForceCancel (p : Port) (f : Frame) (s : State) : Host.Outcome State Fault Refusal :=
  .next (s.takeRequest p 38 f (State.forceCancel p f.params))

/-! ### The collection list (R120 to R122) -/

/-- The data of a LIST_ADD reply: the entry's reason with the codes of R49, its claim state as yes or no (DEDUCED, assumption 14, unsafe), and what the
request did (R120). -/
def State.listAddData (s : State) (c : Nat) (effect : ReplyCode) : List Byte :=
  match s.entry? c with
  | some e => [byteOf e.reason.code, yesNo e.claimed, Config.replyCode effect]
  | none => []

/-- The owner's part of LIST_ADD (R120). -/
def State.listAdd (p : Port) (params : List Byte) (s : State) : State :=
  s.onContainer p 30 params fun c _ s =>
    let s' := s.insertionRequest c .host (s.forecastOf c)
    s'.reply p 30 .ok (s'.listAddData c (s.insertionEffect c .host))

/-- LIST_ADD (R120). -/
def execListAdd (p : Port) (f : Frame) (s : State) : Host.Outcome State Fault Refusal :=
  .next (s.takeRequest p 30 f (State.listAdd p f.params))

/-- The owner's part of LIST_REMOVE (R121). -/
def State.listRemove (p : Port) (params : List Byte) (s : State) : State :=
  s.onContainer p 31 params fun c _ s =>
    match s.entry? c with
    | none => s.reply p 31 .notFound []
    | some e => if e.claimed then s.reply p 31 .held [] else (s.unlist c).reply p 31 .ok []

/-- LIST_REMOVE (R121). -/
def execListRemove (p : Port) (f : Frame) (s : State) : Host.Outcome State Fault Refusal :=
  .next (s.takeRequest p 31 f (State.listRemove p f.params))

/-- The owner's part of LIST_READ (R122). -/
def State.listRead (p : Port) (s : State) : State := s.reply p 29 .ok s.listData

/-- LIST_READ (R122). -/
def execListRead (p : Port) (f : Frame) (s : State) : Host.Outcome State Fault Refusal := .next (s.takeRequest p 29 f (State.listRead p))

/-! ### Rounds (R124, R125, R127) -/

/-- The set of every defined station. -/
def State.definedSet (s : State) : StationSet :=
  BitVec.ofNat 16 (ofBits ((List.range 16).map fun t => (s.station? t).isSome))

/-- A member of a set is not a defined station. -/
def State.namesUndefined (s : State) (stations : StationSet) : Bool :=
  (List.range 16).any fun t => stations.getLsbD t && (s.station? t).isNone

/-- The entries that a round of these stations and this capacity claims, in list order (R125). -/
def State.claimable (s : State) (stations : StationSet) (k : Nat) : List Entry :=
  (s.collection.filter fun e => !e.claimed && stations.getLsbD (e.container / 4)).take k

/-- A new round that has claimed this many entries (R124, R125). -/
def newRound (stations : StationSet) (k claims : Nat) : Round where
  stations := stations
  capacity := k
  claims := claims
  nEmptied := 0
  nPartial := 0
  nAbandoned := 0
  nFault := 0
  started := 0

/-- The round is opened and its entries are claimed (R125). -/
def State.openRound (stations : StationSet) (k : Nat) (s : State) : State :=
  let es := s.claimable stations k
  { s with
    round := some (newRound stations k es.length)
    collection := s.collection.map fun e => if es.any fun x => x.container == e.container then { e with claimed := true } else e }

/-- The owner's part of ROUND_OPEN (R125): capacity and selector, then the explicit set, its members, and the open round. An unlisted selector
(R185) is refused before an open round is (DESIGN CHOICE, assumption 42, unsafe). -/
def State.roundOpen (p : Port) (k selector set : Nat) (s : State) : State :=
  let explicit := BitVec.ofNat 16 set
  if k = 0 ∨ 64 < k ∨ 1 < selector then s.reply p 32 .range []
  else if selector = 0 ∧ explicit = 0 then s.reply p 32 .range []
  else if selector = 0 ∧ s.namesUndefined explicit = true then s.reply p 32 .notFound []
  else if s.round.isSome then s.reply p 32 .busy []
  else
    let stations := if selector = 0 then explicit else s.definedSet
    (s.openRound stations k).reply p 32 .ok (s.manifest (s.claimable stations k))

/-- ROUND_OPEN (R125). -/
def execRoundOpen (p : Port) (f : Frame) (s : State) : Host.Outcome State Fault Refusal :=
  .next (s.takeRequest p 32 f (State.roundOpen p (byteAt f.params 0) (byteAt f.params 1) (field f.params 2 2)))

/-- Some operation is in LIFTED or RETURNED. -/
def State.anyLifted (s : State) : Bool := (s.ops.filterMap id).any fun op => op.phase == .lifted || op.phase == .returned

/-- End the operation of container `c` ABANDONED at a close, with no exit test (R149). -/
def State.abandonAtClose (c : Nat) (s : State) : State :=
  match s.opOf c with
  | some op => s.finish op .abandoned
  | none => s

/-- Step 1 of the close: every operation, in ascending slot number (R127, R149). -/
def State.abandonOperations (s : State) : State :=
  forEach ((s.ops.filterMap id).map Operation.container) State.abandonAtClose s

/-- The entries that are CLAIMED and whose containers are not in the started set (R127, step 3). -/
def State.neverStarted (s : State) (started : ContainerSet) : Nat :=
  (s.collection.filter fun e => e.claimed && !started.getLsbD e.container).length

/-- The round record closes and the claims are released (R127, steps 2 and 4). -/
def State.endRound (s : State) : State := { s.releaseClaims with round := none }

/-- The owner's part of ROUND_CLOSE (R127). -/
def State.roundClose (p : Port) (s : State) : State :=
  if s.round.isNone then s.reply p 33 .noRound []
  else if s.anyLifted then s.reply p 33 .busy []
  else
    let s := s.abandonOperations
    let r := s.round.getD (newRound 0 0 0)
    s.endRound.reply p 33 .ok (r.summary (s.neverStarted r.started))

/-- ROUND_CLOSE (R127). -/
def execRoundClose (p : Port) (f : Frame) (s : State) : Host.Outcome State Fault Refusal := .next (s.takeRequest p 33 f (State.roundClose p))

/-! ### LIFT_START (R131) and UNBLOCK (R163) -/

/-- The owner's part of LIFT_START (R131, R133): the reply names the slot and the phase the operation then stands in, one byte each, the phase in the code
of R49 (DEDUCED, assumption 14, unsafe). -/
def State.liftStart (p : Port) (params : List Byte) (s : State) : State :=
  s.onContainer p 34 params fun c _ s =>
    match s.liftRefusal c with
    | some code => s.reply p 34 code []
    | none =>
      let s' := s.start c .host
      s'.reply p 34 .ok [byteOf (s.freeSlot.getD 0), phaseByte (s'.phaseOf c)]

/-- LIFT_START (R131). -/
def execLiftStart (p : Port) (f : Frame) (s : State) : Host.Outcome State Fault Refusal :=
  .next (s.takeRequest p 34 f (State.liftStart p f.params))

/-- The owner's part of UNBLOCK (R163): the reply gives the cause held or "not blocked" in one byte, with the codes of offset 36 of R49, 0 for not blocked
(DEDUCED, assumption 14, unsafe). -/
def State.unblock (p : Port) (params : List Byte) (s : State) : State :=
  s.onContainer p 39 params fun c k s =>
    (s.updContainer c fun k => { k with blocked := none }).reply p 39 .ok [byteOf (blockCode k.blocked)]

/-- UNBLOCK (R163). -/
def execUnblock (p : Port) (f : Frame) (s : State) : Host.Outcome State Fault Refusal :=
  .next (s.takeRequest p 39 f (State.unblock p f.params))

end Sys2Proof.Machine
end

