-- ==== Sys2Proof/Machine/SetupRequests.lean ====
section
/-!
DEFINITION. The requests that set the part up and read it: stations, containers, the clock, inputs, masks, bindings, TUNING.
-/
namespace Sys2Proof.Machine

/-! ### STATION_DEFINE (R2, R3) -/

/-- The node address of another defined station. -/
def State.nodeTaken (s : State) (t node : Nat) : Bool :=
  s.definedStations.any fun u =>
    u != t && match s.station? u with
    | some st => st.node == node
    | none => false

/-- The fractions that the codes of a STATION_DEFINE name; `none` when one names none. -/
def fractionsOf : List Byte → Option (List Fraction)
  | [] => some []
  | b :: bs =>
    match fractionOfCode b.toNat, fractionsOf bs with
    | some f, some fs => some (f :: fs)
    | _, _ => none

/-- A container whose slot is in use before and after a redefinition: its records stay, its fraction is the new one, and the scanner's state of the
slot starts afresh (R3). -/
def Container.redefine (f : Fraction) (k : Container) : Container :=
  { k with fraction := f, outputs := .rest, lampHold := none, marker := none, contacts := .all .cleared }

/-- The slots of a station after a definition (R3). -/
def slotsFor : List Fraction → List Container → List Container
  | [], _ => []
  | f :: fs, [] => Container.fresh f :: slotsFor fs []
  | f :: fs, k :: ks => k.redefine f :: slotsFor fs ks

/-- A station as STATION_DEFINE leaves it, over the record it had (R3, R152). -/
def Station.define (node : Nat) (fs : List Fraction) (old : Option Station) : Station where
  node := node
  online := true
  misses := 0
  inputs := .all .cleared
  revision := 0
  acknowledged := none
  resend := true
  inputSetup := (old.map Station.inputSetup).getD InputSetup.default
  flags := (old.map Station.flags).getD .clear
  status := .suspended
  slots := slotsFor fs ((old.map Station.slots).getD [])

/-- A container ceases to exist: its list entry is discarded and its confirmation parts end not engaged (R3, R113, R168). -/
def State.dropContainer (c : Nat) (s : State) : State := (s.unlist c).updParts c PartState.giveUp

/-- The containers of station `t` from slot `n` on cease to exist. -/
def State.dropContainers (t n : Nat) (s : State) : State :=
  forEach ((s.containersAt t).drop n) State.dropContainer s

/-- A visit to station `t` is abandoned (R11). -/
def State.abandonVisit (t : Nat) (s : State) : State := if s.bus.visiting = some t then s.endVisit else s

/-- A removal (R2, R3, R11, R152). -/
def State.removeStation (t : Nat) (s : State) : State := ((s.dropContainers t 0).setStation t none).abandonVisit t

/-- A definition or redefinition (R2, R3, R152). A visit in progress to a redefined station goes on (DESIGN CHOICE, assumption 32, unsafe); slots
that are taken away go in ascending order (DESIGN CHOICE, assumption 33, unsafe). -/
def State.defineStation (t node : Nat) (fs : List Fraction) (s : State) : State :=
  (s.dropContainers t fs.length).setStation t (some (Station.define node fs (s.station? t)))

/-- The owner's part of STATION_DEFINE (R2). -/
def State.stationDefine (p : Port) (t node count : Nat) (codes : List Byte) (s : State) : State :=
  if 15 < t ∨ 4 < count then s.reply p 11 .range []
  else if count = 0 then (s.removeStation t).reply p 11 .ok []
  else if node = 0 ∨ 31 < node then s.reply p 11 .range []
  else
    match fractionsOf codes with
    | none => s.reply p 11 .range []
    | some fs =>
      if s.nodeTaken t node then s.reply p 11 .range [] else (s.defineStation t node fs).reply p 11 .ok []

/-- STATION_DEFINE (R2). -/
def execStationDefine (p : Port) (f : Frame) (s : State) : Host.Outcome State Fault Refusal :=
  .next (s.takeRequest p 11 f
    (State.stationDefine p (byteAt f.params 0) (byteAt f.params 1) (byteAt f.params 2) (f.params.drop 3)))

/-! ### STATION_READ (R4) -/

/-- The owner's part of STATION_READ: one record, or all sixteen for 255 (R4). -/
def State.stationRead (p : Port) (t : Nat) (s : State) : State :=
  if t = 255 then s.reply p 10 .ok ((List.range 16).flatMap s.stationRecord)
  else if 15 < t then s.reply p 10 .range []
  else s.reply p 10 .ok (s.stationRecord t)

/-- STATION_READ (R4). -/
def execStationRead (p : Port) (f : Frame) (s : State) : Host.Outcome State Fault Refusal :=
  .next (s.takeRequest p 10 f (State.stationRead p (byteAt f.params 0)))

/-! ### CONTAINER_SETUP and CONTAINER_READ (R24, R25, R49) -/

/-- The owner's part of CONTAINER_SETUP: the defaulted setup is checked and stored as the pending setup, with the written marker (R24, R25). -/
def State.containerSetup (p : Port) (params : List Byte) (s : State) : State :=
  s.onContainer p 12 params fun c _ s =>
    if setupBytesFit params && (setupOf params).inRange then
      (s.updContainer c fun k => { k with written := some (setupOf params), writtenMarker := true }).reply p 12 .ok []
    else s.reply p 12 .range []

/-- CONTAINER_SETUP (R24). -/
def execContainerSetup (p : Port) (f : Frame) (s : State) : Host.Outcome State Fault Refusal :=
  .next (s.takeRequest p 12 f (State.containerSetup p f.params))

/-- The owner's part of CONTAINER_READ (R49). -/
def State.containerRead (p : Port) (params : List Byte) (s : State) : State :=
  s.onContainer p 9 params fun c k s => s.reply p 9 .ok (s.statusRecord c k)

/-- CONTAINER_READ (R49). -/
def execContainerRead (p : Port) (f : Frame) (s : State) : Host.Outcome State Fault Refusal :=
  .next (s.takeRequest p 9 f (State.containerRead p f.params))

/-! ### SET_CLOCK (R9, R47) -/

/-- The clock-set notice at one container (R47). -/
def Container.clockSet (k : Container) : Container :=
  if k.latched.isSome then { k with est := { k.est with baseline := some k.est.credited } } else k

/-- The clock takes the given values and the clock-set notice reaches every container (R9, R47). -/
def State.setClock (day second : Nat) (s : State) : State :=
  forEach s.containersInUse (fun c => State.updContainer c Container.clockSet)
    { s with clock := { s.clock with day := day, second := second, unset := false } }

/-- The owner's part of SET_CLOCK (R9). A day above 65535 has no two-byte form. -/
def State.clockRequest (p : Port) (day second : Nat) (s : State) : State :=
  if 65535 < day ∨ 86399 < second then s.reply p 6 .range []
  else (s.setClock day second).reply p 6 .ok (bytesOf 2 day ++ bytesOf 3 second)

/-- SET_CLOCK (R9). -/
def execSetClock (p : Port) (f : Frame) (s : State) : Host.Outcome State Fault Refusal :=
  .next (s.takeRequest p 6 f (State.clockRequest p (field f.params 0 2) (field f.params 2 3)))

/-! ### INPUT_SETUP (R164) -/

/-- The setting of one input in a request; `none` when a code is unknown. -/
def inputSettingAt (ps : List Byte) (i : Nat) : Option InputSetup :=
  match triggerOfCode (byteAt ps i) with
  | some m => if byteAt ps (i + 1) ≤ 1 then some { trigger := m, active := byteAt ps (i + 1) == 1 } else none
  | none => none

/-- The three settings of a request. -/
def inputSettingsOf (ps : List Byte) : Option (PerInput InputSetup) :=
  match inputSettingAt ps 1, inputSettingAt ps 3, inputSettingAt ps 5 with
  | some d, some f, some a => some { door := d, flood := f, aux := a }
  | _, _, _ => none

/-- The owner's part of INPUT_SETUP (R164); the station is tested before the codes (DESIGN CHOICE, assumption 42, unsafe). -/
def State.setInputs (p : Port) (params : List Byte) (s : State) : State :=
  match s.checkStation (byteAt params 0) with
  | some code => s.reply p 15 code []
  | none =>
    match inputSettingsOf params with
    | some x => (s.updStation (byteAt params 0) fun st => { st with inputSetup := x }).reply p 15 .ok []
    | none => s.reply p 15 .range []

/-- INPUT_SETUP (R164). -/
def execInputSetup (p : Port) (f : Frame) (s : State) : Host.Outcome State Fault Refusal :=
  .next (s.takeRequest p 15 f (State.setInputs p f.params))

/-! ### INTEGRITY_MASK (R154) -/

/-- A container under a new mask: the window or the fault of a masked HL or LL ends (R154). R154 names no DEFERRED contact: one stays DEFERRED under the
mask, so that unmasking it does not include it before its first acceptance (DEDUCED, assumption 10, unsafe). -/
def Container.remask (m : PerContact Bool) (k : Container) : Container :=
  { k with
    mask := m
    settleHL := if m.hl then k.settleHL.cancel else k.settleHL
    settleLL := if m.ll then k.settleLL.cancel else k.settleLL }

/-- The mask of station `t` is replaced: contact `k` of slot `s` stands in bit 5 × s + k (R154). -/
def State.remask (t mask : Nat) (s : State) : State :=
  forEach (s.containersAt t) (fun c => State.updContainer c (Container.remask (contactBits mask (5 * (c % 4))))) s

/-- A station's contacts in the layout of INTEGRITY_MASK, slot 0 first. -/
def contactSet (xs : List (PerContact Bool)) : Nat := ofBits (xs.flatMap PerContact.toList)

/-- The set of non-excluded contacts of station `t` that mismatch. -/
def State.mismatchSet (s : State) (t : Nat) : Nat :=
  contactSet ((s.containersAt t).map fun c => s.ofContainer c (.all false) fun k => k.mismatch (s.pattern c))

/-- The code of a station status in a reply. -/
def StationStatus.replyCode : StationStatus → ReplyCode
  | .suspended => .suspended
  | .unarmed => .unarmed
  | .armed => .armed

/-- The status of station `t`, SUSPENDED for one that is not defined. -/
def State.statusOf (s : State) (t : Nat) : StationStatus := ((s.station? t).map Station.status).getD .suspended

/-- A mask change with its evaluation and its confirmation parts (R154, R157, R168). -/
def State.changeMask (t mask : Nat) (s : State) : State :=
  forEach (s.containersAt t) State.followParts ((s.remask t mask).evaluate t)

/-- The owner's part of INTEGRITY_MASK (R154); the station is tested before the bits (DESIGN CHOICE, assumption 42, unsafe). -/
def State.setMask (p : Port) (t mask : Nat) (s : State) : State :=
  match s.checkStation t with
  | some code => s.reply p 16 code []
  | none =>
    if 2 ^ (5 * (s.containersAt t).length) ≤ mask then s.reply p 16 .range []
    else
      let s := s.changeMask t mask
      s.reply p 16 .ok (bytesOf 3 mask ++ [Config.replyCode (s.statusOf t).replyCode] ++ bytesOf 3 (s.mismatchSet t))

/-- INTEGRITY_MASK (R154). -/
def execIntegrityMask (p : Port) (f : Frame) (s : State) : Host.Outcome State Fault Refusal :=
  .next (s.takeRequest p 16 f (State.setMask p (byteAt f.params 0) (field f.params 1 3)))

/-! ### EVENT_BINDING (R166, R173) -/

/-- The owner's part of EVENT_BINDING (R166, R173). -/
def State.bindEvent (p : Port) (cls enable priority action : Nat) (s : State) : State :=
  match eventClassOfCode cls, boundActionOfCode action with
  | some cl, some a =>
    if 1 < enable ∨ 7 < priority ∨ (enable = 0 ∧ cl = .restarted) ∨ (a ≠ .none ∧ cl.bindable = false) then s.reply p 14 .range []
    else
      ({ s with bindings := s.bindings.set (cls - 1) { enabled := enable == 1, priority := priority, action := a } }).reply p 14 .ok
        [byteOf enable, byteOf priority, byteOf action]
  | _, _ => s.reply p 14 .range []

/-- EVENT_BINDING (R173). -/
def execEventBinding (p : Port) (f : Frame) (s : State) : Host.Outcome State Fault Refusal :=
  .next (s.takeRequest p 14 f
    (State.bindEvent p (byteAt f.params 0) (byteAt f.params 1) (byteAt f.params 2) (byteAt f.params 3)))

/-! ### TUNING (R178, R186) -/

/-- ATTN follows the queue and the attention level (R178). -/
def State.followAttn (s : State) : State := { s with report := s.report.withAttn s.tuning.attention }

/-- The owner's part of TUNING (R186). -/
def State.tune (p : Port) (pairs : List (Nat × Nat)) (s : State) : State :=
  if pairs.any fun x => (tuningRange x.1).isNone then s.reply p 5 .range []
  else
    let s := ({ s with tuning := s.tuning.apply pairs }).followAttn
    s.reply p 5 (if clampsAny pairs then .clamped else .ok) s.tuning.bytes

/-- TUNING (R186). -/
def execTuning (p : Port) (f : Frame) (s : State) : Host.Outcome State Fault Refusal :=
  .next (s.takeRequest p 5 f (State.tune p (tuningPairs f.params)))

end Sys2Proof.Machine
end

