-- ==== Sys2Proof/Machine/Dispatch.lean ====
section
/-!
DEFINITION. The effect of every command on everything but the queue of waiting commands.
-/
namespace Sys2Proof.Machine

/-- The effect of a command: one arm per row of the table, one meaning per arm. -/
def exec (i : Instr) (s : State) : Host.Outcome State Fault Refusal :=
  match i with
  | .coldStart => Sys2Proof.Machine.execColdStart s
  | .warmStart => Sys2Proof.Machine.execWarmStart s
  | .clockTick => Sys2Proof.Machine.execClockTick s
  | .hourBoundary => Sys2Proof.Machine.execHourBoundary s
  | .stationVisit => Sys2Proof.Machine.execStationVisit s
  | .pollReply bytes => Sys2Proof.Machine.execPollReply bytes s
  | .pollReplyInvalid => Sys2Proof.Machine.execPollReplyInvalid s
  | .busByteGapTimeout => Sys2Proof.Machine.execBusByteGapTimeout s
  | .pollReplyTimeout => Sys2Proof.Machine.execPollReplyTimeout s
  | .lampHoldExpiry c => Sys2Proof.Machine.execLampHoldExpiry c s
  | .periodicTimerExpiry c => Sys2Proof.Machine.execPeriodicTimerExpiry c s
  | .postDepositTimerExpiry c => Sys2Proof.Machine.execPostDepositTimerExpiry c s
  | .echoTimeout c => Sys2Proof.Machine.execEchoTimeout c s
  | .releaseWindowExpiry c => Sys2Proof.Machine.execReleaseWindowExpiry c s
  | .depositTimerExpiry c => Sys2Proof.Machine.execDepositTimerExpiry c s
  | .liftWaitExpiry c => Sys2Proof.Machine.execLiftWaitExpiry c s
  | .liftedTimerExpiry c => Sys2Proof.Machine.execLiftedTimerExpiry c s
  | .attemptTimerExpiry c => Sys2Proof.Machine.execAttemptTimerExpiry c s
  | .settleWindowExpiry c a => Sys2Proof.Machine.execSettleWindowExpiry c a s
  | .confirmationWindowExpiry place c => Sys2Proof.Machine.execConfirmationWindowExpiry place c s
  | .cardPut p f => Sys2Proof.Machine.execCardPut p f s
  | .cardPutRecordStep => Sys2Proof.Machine.execCardPutRecordStep s
  | .cardDelete p f => Sys2Proof.Machine.execCardDelete p f s
  | .cardDeleteRecordStep => Sys2Proof.Machine.execCardDeleteRecordStep s
  | .cardGet p f => Sys2Proof.Machine.execCardGet p f s
  | .cardNext p f => Sys2Proof.Machine.execCardNext p f s
  | .watchSet p f => Sys2Proof.Machine.execWatchSet p f s
  | .watchClear p f => Sys2Proof.Machine.execWatchClear p f s
  | .watchList p f => Sys2Proof.Machine.execWatchList p f s
  | .fractionRules p f => Sys2Proof.Machine.execFractionRules p f s
  | .stationDefine p f => Sys2Proof.Machine.execStationDefine p f s
  | .stationRead p f => Sys2Proof.Machine.execStationRead p f s
  | .containerSetup p f => Sys2Proof.Machine.execContainerSetup p f s
  | .containerRead p f => Sys2Proof.Machine.execContainerRead p f s
  | .measureNow p f => Sys2Proof.Machine.execMeasureNow p f s
  | .setClock p f => Sys2Proof.Machine.execSetClock p f s
  | .forceLock p f => Sys2Proof.Machine.execForceLock p f s
  | .forceRelease p f => Sys2Proof.Machine.execForceRelease p f s
  | .forceCancel p f => Sys2Proof.Machine.execForceCancel p f s
  | .listAdd p f => Sys2Proof.Machine.execListAdd p f s
  | .listRemove p f => Sys2Proof.Machine.execListRemove p f s
  | .listRead p f => Sys2Proof.Machine.execListRead p f s
  | .roundOpen p f => Sys2Proof.Machine.execRoundOpen p f s
  | .roundClose p f => Sys2Proof.Machine.execRoundClose p f s
  | .liftStart p f => Sys2Proof.Machine.execLiftStart p f s
  | .unblock p f => Sys2Proof.Machine.execUnblock p f s
  | .integrityMask p f => Sys2Proof.Machine.execIntegrityMask p f s
  | .inputSetup p f => Sys2Proof.Machine.execInputSetup p f s
  | .eventBinding p f => Sys2Proof.Machine.execEventBinding p f s
  | .eventsFetch p f => Sys2Proof.Machine.execEventsFetch p f s
  | .flagsClear p f => Sys2Proof.Machine.execFlagsClear p f s
  | .tuning p f => Sys2Proof.Machine.execTuning p f s
  | .ident p f => Sys2Proof.Machine.execIdent p f s
  | .status p f => Sys2Proof.Machine.execStatus p f s
  | .restart p f => Sys2Proof.Machine.execRestart p f s
  | .setModeConfigure p f => Sys2Proof.Machine.execSetModeConfigure p f s
  | .setModeOperate p f => Sys2Proof.Machine.execSetModeOperate p f s
  | .setModeSupervise p f => Sys2Proof.Machine.execSetModeSupervise p f s
  | .continueSegment p f => Sys2Proof.Machine.execContinueSegment p f s
  | .unknownRequestKind p kind f => Sys2Proof.Machine.execUnknownRequestKind p kind f s
  | .busyFrameDiscard p body => Sys2Proof.Machine.execBusyFrameDiscard p body s
  | .frameLengthInvalid p n => Sys2Proof.Machine.execFrameLengthInvalid p n s
  | .frameGapTimeout p => Sys2Proof.Machine.execFrameGapTimeout p s
  | .replySent p => Sys2Proof.Machine.execReplySent p s
  | .unlock p f => Sys2Proof.Machine.execUnlock p f s
  | .serviceEnd p f => Sys2Proof.Machine.execServiceEnd p f s
  | .inactivityTimerExpiry => Sys2Proof.Machine.execInactivityTimerExpiry s
  | .serviceClear p f => Sys2Proof.Machine.execServiceClear p f s
  | .serviceCode p f => Sys2Proof.Machine.execServiceCode p f s

end Sys2Proof.Machine
end

