-- ==== Sys2Proof/Safety.lean ====
section
/-!
DEFINITION. The terms claims use: a port that can take a request and the state once it has, the request a command stands for, and what a sound
state is, block by block.
-/
namespace Sys2Proof.Machine

/-! ### Requests -/

/-- A port is free to take a request and is allowed more than IDENT and UNLOCK: it is not busy (R183), and the service port is GRANTED (R182). -/
def Ready (s : State) (p : Port) : Prop := (s.port p).busy = false ∧ (p = .service → s.grant.state = .granted)

/-- A state once a request other than CONTINUE, with a right check byte, has been taken on a port: the receiver idle, the port busy, the segment
remainder discarded and the inactivity timer of a GRANTED service port restarted (R181, R183, R184, R194). -/
def State.taken (p : Port) (s : State) : State :=
  match p with
  | .gateway => { s with gateway := { s.gateway with receiver := .idle, busy := true, remainder := none } }
  | .service =>
    { s with
      service := { s.service with receiver := .idle, busy := true, remainder := none }
      grant := if s.grant.state = .granted then { s.grant with inactivity := some 600 } else s.grant }

/-- The port, the message kind (R185) and the frame of a command that stands for a completed request. -/
def requestOf : Instr → Option (Port × Byte × Frame)
  | .ident p f => some (p, 1, f)
  | .status p f => some (p, 2, f)
  | .setModeConfigure p f => some (p, 3, f)
  | .setModeOperate p f => some (p, 3, f)
  | .setModeSupervise p f => some (p, 3, f)
  | .restart p f => some (p, 4, f)
  | .tuning p f => some (p, 5, f)
  | .setClock p f => some (p, 6, f)
  | .continueSegment p f => some (p, 7, f)
  | .eventsFetch p f => some (p, 8, f)
  | .containerRead p f => some (p, 9, f)
  | .stationRead p f => some (p, 10, f)
  | .stationDefine p f => some (p, 11, f)
  | .containerSetup p f => some (p, 12, f)
  | .fractionRules p f => some (p, 13, f)
  | .eventBinding p f => some (p, 14, f)
  | .inputSetup p f => some (p, 15, f)
  | .integrityMask p f => some (p, 16, f)
  | .serviceCode p f => some (p, 17, f)
  | .serviceClear p f => some (p, 18, f)
  | .unlock p f => some (p, 19, f)
  | .serviceEnd p f => some (p, 20, f)
  | .cardGet p f => some (p, 21, f)
  | .cardNext p f => some (p, 22, f)
  | .cardPut p f => some (p, 23, f)
  | .cardDelete p f => some (p, 24, f)
  | .watchSet p f => some (p, 25, f)
  | .watchClear p f => some (p, 26, f)
  | .watchList p f => some (p, 27, f)
  | .flagsClear p f => some (p, 28, f)
  | .listRead p f => some (p, 29, f)
  | .listAdd p f => some (p, 30, f)
  | .listRemove p f => some (p, 31, f)
  | .roundOpen p f => some (p, 32, f)
  | .roundClose p f => some (p, 33, f)
  | .liftStart p f => some (p, 34, f)
  | .measureNow p f => some (p, 35, f)
  | .forceLock p f => some (p, 36, f)
  | .forceRelease p f => some (p, 37, f)
  | .forceCancel p f => some (p, 38, f)
  | .unblock p f => some (p, 39, f)
  | .coldStart => none
  | .warmStart => none
  | .clockTick => none
  | .hourBoundary => none
  | .stationVisit => none
  | .pollReply _ => none
  | .pollReplyInvalid => none
  | .busByteGapTimeout => none
  | .pollReplyTimeout => none
  | .lampHoldExpiry _ => none
  | .periodicTimerExpiry _ => none
  | .postDepositTimerExpiry _ => none
  | .echoTimeout _ => none
  | .releaseWindowExpiry _ => none
  | .depositTimerExpiry _ => none
  | .liftWaitExpiry _ => none
  | .liftedTimerExpiry _ => none
  | .attemptTimerExpiry _ => none
  | .settleWindowExpiry _ _ => none
  | .confirmationWindowExpiry _ _ => none
  | .cardPutRecordStep => none
  | .cardDeleteRecordStep => none
  | .unknownRequestKind _ _ _ => none
  | .busyFrameDiscard _ _ => none
  | .frameLengthInvalid _ _ => none
  | .frameGapTimeout _ => none
  | .replySent _ => none
  | .inactivityTimerExpiry => none

/-- The state after a request on port `p` whose only effect is its reply. -/
def State.answer (p : Port) (kind : Byte) (code : ResultCode) (data : List Byte) (s : State) : State := (s.taken p).reply p kind code data

/-- The data bytes of a reply frame: what stands between the segment marker and the check byte (R180). -/
def segmentData (frame : List Byte) : List Byte := (frame.drop 5).dropLast

/-- The data a host collects on port `p` from the reply in transmission and, the reply sent each time, from `n` CONTINUE requests. -/
def collect : Nat → Port → State → List Byte
  | 0, p, s => segmentData ((s.port p).reply.getD [])
  | n + 1, p, s =>
    segmentData ((s.port p).reply.getD []) ++
      match exec (.replySent p) s with
      | .next s' =>
        match exec (.continueSegment p (request 7 [])) s' with
        | .next s'' => collect n p s''
        | _ => []
      | _ => []

/-! ### Presentations -/

/-- The code of the first test that applies, the tests standing in the order of their table (R92, R130). -/
def firstFailing (tests : List (Bool × RefusalCode)) : Option RefusalCode := (tests.find? fun x => x.1).map fun x => x.2

/-- The state once the watch list has answered a presentation of card `id` at container `c` (R87, R93, step 2): CARD_WATCH posted for an entry, and for
a HOLD entry the card's record SUSPENDED. -/
def State.watched (c : Nat) (id : CardId) (s : State) : State :=
  match s.watch.find? fun e => e.id == id with
  | none => s
  | some e =>
    { s with
      report := s.report.post s.tuning.attention (s.event .cardWatch (some (c / 4)) (some c) (.cardWatch id e.action)) .none 0
      directory :=
        { s.directory with
          cards := s.directory.cards.map fun r => if r.id = id ∧ e.action = .hold then { r with suspended := true } else r } }

/-! ### Band changes -/

/-- The thresholds whose crossing by a change from band `old` to band `new` is reported, in crossing order (R58). -/
def Setup.reported (x : Setup) (old : Option Band) (new : Band) : List Nat :=
  match old with
  | none => []
  | some b =>
    if b.number < new.number then
      ([(1, x.passNotice), (2, x.passFull), (3, x.passLock)].filter fun m =>
        decide (b.number < m.1 ∧ m.1 ≤ new.number ∧ (m.2 = .up ∨ m.2 = .both))).map fun m => m.1
    else
      ([(3, x.passLock), (2, x.passFull), (1, x.passNotice)].filter fun m =>
        decide (new.number < m.1 ∧ m.1 ≤ b.number ∧ (m.2 = .down ∨ m.2 = .both))).map fun m => m.1

/-- The list reason of a band (R61). -/
def Band.reason : Band → Option Reason
  | .low => none
  | .notice => none
  | .full => some .full
  | .lockout => some .lockout

/-- What the requests of a change from band `old` to another band `new` make of a container's entry `e`, and the entries that they post with the
reasons before (R61, R115 to R117): every request gives the entry its new H; the downgrade of a LOCKOUT entry, the removal of a LISTED FULL one, and the
insertion, `fresh` being what an insertion of FULL would enter. -/
def bandListing (old : Option Band) (new : Band) (fresh : Entry) (e : Option Entry) : Option Entry × List (Entry × Option Reason) :=
  if old = some new ∨ (old ≠ some .full ∧ old ≠ some .lockout ∧ new.reason = none) then (e, [])
  else
    let updated := e.map fun (x : Entry) => { x with forecast := fresh.forecast }
    let lowered := old = some .lockout ∧ (updated.map Entry.reason) = some .lockout
    let downgraded := if lowered then updated.map fun (x : Entry) => { x with reason := .full } else updated
    let posted : List (Entry × Option Reason) := if lowered then downgraded.toList.map fun x => (x, some .lockout) else []
    let kept := downgraded.filter fun (x : Entry) => !decide (new.number < 2 ∧ x.reason = .full ∧ x.claimed = false)
    match new.reason, kept with
    | none, _ => (kept, posted)
    | some r, none => (some { fresh with reason := r }, posted ++ [({ fresh with reason := r }, none)])
    | some r, some x =>
      if r.code < x.reason.code then (some { x with reason := r }, posted ++ [({ x with reason := r }, some x.reason)])
      else (some x, posted)

/-- The entry that an insertion of FULL with forecast `h` would make for container `c` now (R115). -/
def State.freshEntry (s : State) (c h : Nat) : Entry :=
  { container := c, reason := .full, claimed := false, day := s.clock.day, second := s.clock.second, forecast := h }

/-- The report queue `q` after an event of container scope with no action has been posted. -/
def State.reportAt (s : State) (c : Nat) (cls : EventClass) (body : EventBody) (q : Report) : Report :=
  q.post s.tuning.attention (s.event cls (some (c / 4)) (some c) body) .none 0

/-- The report queue `q` after the postings of a band change of container `c` at level `l`: each reported crossing, then what the list posts (R57,
R58). -/
def State.reportBand (s : State) (c : Nat) (x : Setup) (old : Option Band) (new : Band) (l h : Nat) (q : Report) : Report :=
  (bandListing old new (s.freshEntry c h) (s.entry? c)).2.foldl
    (fun q p => s.reportAt c .listEntry (.listEntry p.1.reason p.2 p.1.claimed p.1.forecast l) q)
    ((x.reported old new).foldl
      (fun q i => s.reportAt c .levelPassage (.levelPassage i (old.any fun b => decide (b.number < new.number)) l) q) q)

/-- The flags after the reported crossings `is` (R59). -/
def ContainerFlags.passed (is : List Nat) (f : ContainerFlags) : ContainerFlags :=
  { f with passNotice := f.passNotice || is.contains 1, passFull := f.passFull || is.contains 2, passLock := f.passLock || is.contains 3 }

/-! ### POLL replies -/

/-- The slot block that carries what a slot reports (section 1.3.4). -/
def SlotReport.block (r : SlotReport) : List Byte :=
  byteOf (ofBits
    [r.contacts.hc, r.contacts.hl, r.contacts.ll, r.contacts.se, r.contacts.pd, r.card.isSome, r.echo.isSome, r.echo == some .noEcho]) ::
    (match r.card with
      | some id => bytesOf 7 id.toNat
      | none => []) ++
    (match r.echo with
      | some (.heard d q) => bytesOf 2 d ++ [byteOf q]
      | _ => [])

/-- The body of the POLL reply that carries a report (section 1.3.4). -/
def PollReport.body (r : PollReport) : List Byte :=
  r.revision :: byteOf (ofBits [r.inputs.door, r.inputs.flood, r.inputs.aux]) :: byteOf r.slots.length :: r.slots.flatMap SlotReport.block

/-- The station record after the scanner has taken a reply: misses, acknowledged revision, and every filter (R12, R15, R16). -/
def Station.after (r : PollReport) (st : Station) : Station :=
  { st with
    misses := 0
    acknowledged := some r.revision
    inputs :=
      { door := st.inputs.door.report r.inputs.door, flood := st.inputs.flood.report r.inputs.flood, aux := st.inputs.aux.report r.inputs.aux }
    slots := List.zipWith (fun (x : SlotReport) (k : Container) =>
      { k with
        contacts :=
          { hc := k.contacts.hc.report x.contacts.hc, hl := k.contacts.hl.report x.contacts.hl, ll := k.contacts.ll.report x.contacts.ll
            se := k.contacts.se.report x.contacts.se, pd := k.contacts.pd.report x.contacts.pd } }) r.slots st.slots }

/-- What the filters of container `k` make of its slot's report. -/
def acceptedOf (x : SlotReport) (k : Container) : PerContact Acceptance where
  hc := k.contacts.hc.acceptance x.contacts.hc
  hl := k.contacts.hl.acceptance x.contacts.hl
  ll := k.contacts.ll.acceptance x.contacts.ll
  se := k.contacts.se.acceptance x.contacts.se
  pd := k.contacts.pd.acceptance x.contacts.pd

/-! ### Frames -/

/-- What of a station's record is neither its containers nor its status nor its output revision. -/
def Station.still (st : Station) : Station := { st with slots := [], status := .suspended, revision := 0 }

/-- Of the station records, nothing but container `c` and the status and the output revision of its station differs from `s` to `t`. -/
def OnlyContainer (c : Nat) (s t : State) : Prop :=
  (∀ d, d ≠ c → t.container? d = s.container? d) ∧
  (∀ u, u ≠ c / 4 → t.station? u = s.station? u) ∧
  (t.station? (c / 4)).map Station.still = (s.station? (c / 4)).map Station.still

/-- `k'` is `k` but for the settle states of HL and LL. -/
def SameButSettle (k' k : Container) : Prop := { k' with settleHL := k.settleHL, settleLL := k.settleLL } = k

/-- From `s` to `t` nothing but container `c`, its station's status and output revision, and what its confirmation parts bring about (the actions in flight
and the events they post) differs. -/
def OnlyHatch (c : Nat) (s t : State) : Prop :=
  OnlyContainer c s t ∧ { t with stations := s.stations, actions := s.actions, report := s.report } = s

/-- `m` is the highest of 0 to 3 for which `P` holds, 0 standing for none (R51). -/
def Highest (P : Nat → Prop) (m : Nat) : Prop := m ≤ 3 ∧ (m = 0 ∨ P m) ∧ ∀ n, m < n → n ≤ 3 → ¬P n

/-- The threshold with this number (section 3.1). -/
def Setup.threshold (x : Setup) (k : Nat) : Nat := if k = 1 then x.tNotice else if k = 2 then x.tFull else x.tLock

/-- Station `t` is the next to visit: the lowest defined one above the station visited last, or the lowest of all when there is none above (R11). -/
def NextVisit (s : State) (t : Nat) : Prop :=
  (s.station? t).isSome = true ∧
  ((∃ l, s.bus.last = some l ∧ l < t ∧ ∀ u, l < u → u < t → s.station? u = none) ∨
    ((s.bus.last = none ∨ ∃ l, s.bus.last = some l ∧ ∀ u, l < u → s.station? u = none) ∧ ∀ u, u < t → s.station? u = none))

/-! ### Ends of operations -/

/-- The operations in being. -/
def State.operations (s : State) : List Operation := s.ops.filterMap id

/-- The record of a container whose verification interest has been released: no tag on its measurement in flight nor on its marker (R147). -/
def Container.untagged (k : Container) : Container :=
  { k with
    marker := k.marker.map fun m => { m with tag := none }
    est := { k.est with flight := k.est.flight.map fun x => { x with tag := none } } }

/-- The list reason that an outcome sets (R119). -/
def LiftOutcome.listed : LiftOutcome → Option Reason
  | .emptied => none
  | .partialLift => some .partialLift
  | .abandoned => none
  | .fault => some .inspection

/-- The report queue `q` after what the end of operation `op` with outcome `o` posts: LIST_ENTRY when the entry's reason changes, then EMPTYING_DONE with
the deposits at seed or else the count held now (R119, R144, R146). -/
def State.reportEnded (s : State) (o : LiftOutcome) (op : Operation) (q : Report) : Report :=
  s.reportAt op.container .emptyingDone
    (.emptyingDone o op.phase op.start op.attempts op.verified
      (op.depositsAtSeed.getD (((s.container? op.container).map fun k => k.est.deposits).getD 0)))
    (match o.listed, s.entry? op.container with
      | some r, some e =>
        if e.reason = r then q
        else
          s.reportAt op.container .listEntry
            (.listEntry r (some e.reason) false e.forecast (((s.container? op.container).map fun k => k.est.level).getD 0)) q
      | _, _ => q)

/-- Operation `x` waits in PENDING for the crane position that `op` holds, its hatch LOCKED and HL accepted at 1 (R134). -/
def State.waitsFor (s : State) (op x : Operation) : Bool :=
  op.phase.holdsCrane && decide (x.phase = .pending ∧ x.container ≠ op.container ∧ x.container / 4 = op.container / 4) &&
    (s.container? x.container).any fun k => decide (k.hatch.state = .locked ∧ k.contacts.hl.accepted = some true)

/-- Operation `x` takes the crane position when `op` ends: of those that wait it was started first (R134, R144). -/
def State.movesAfter (s : State) (op x : Operation) : Bool :=
  s.waitsFor op x && s.operations.all fun y => !s.waitsFor op y || decide (x.order ≤ y.order)

/-- Operation `op` of container `c`, whose record is `k`, ends with outcome `o` between `s` and `t` (R119, R129, R134, R144 to R147). The container: latch
at ENGAGE, verification released, BLOCKED with cause LIFT at FAULT. The others: unchanged, but for the one whose operation takes the crane position. The
operations: the slot freed, the start orders above it lowered by one, that one operation in UNLATCHED with its lift wait. The round's count, the entry
and the postings by the outcome. Nothing else. -/
def OperationEnded (o : LiftOutcome) (op : Operation) (c : Nat) (k : Container) (s t : State) : Prop :=
  (∃ k' : Container, t.container? c = some k' ∧
    SameButSettle k'
      { k.untagged with
        outputs := { k.outputs with latch := .engage }
        blocked := if o = .fault then k.blocked.or (some .lift) else k.blocked }) ∧
  (∀ d kd, d ≠ c → s.container? d = some kd →
    ((∃ x ∈ s.operations, x.container = d ∧ s.movesAfter op x = true) →
      ∃ kd' : Container, t.container? d = some kd' ∧ SameButSettle kd' { kd with outputs := { kd.outputs with latch := .release } }) ∧
    ((∀ x ∈ s.operations, x.container = d → s.movesAfter op x = false) → t.container? d = some kd)) ∧
  (∀ d, s.container? d = none → t.container? d = none) ∧
  (∀ u, u ≠ c / 4 → t.station? u = s.station? u) ∧
  (t.station? (c / 4)).map Station.still = (s.station? (c / 4)).map Station.still ∧
  t.ops = s.ops.map (fun x => x.bind fun x =>
    if x.container = c then none
    else
      some
        { x with
          order := if op.order < x.order then x.order - 1 else x.order
          phase := if s.movesAfter op x = true then .unlatched else x.phase
          timer := if s.movesAfter op x = true then some s.tuning.liftWait else x.timer }) ∧
  t.round = (s.round.map fun r =>
    match o with
    | .emptied => { r with nEmptied := min 65535 (r.nEmptied + 1) }
    | .partialLift => { r with nPartial := min 65535 (r.nPartial + 1) }
    | .abandoned => { r with nAbandoned := min 65535 (r.nAbandoned + 1) }
    | .fault => { r with nFault := min 65535 (r.nFault + 1) }) ∧
  (o = .emptied → t.collection = s.collection.filter fun e => e.container != c) ∧
  (o = .abandoned → t.collection = s.collection) ∧
  (∀ r, o.listed = some r → t.entry? c = (s.entry? c).map fun e => { e with reason := r, claimed := false }) ∧
  (∀ d, d ≠ c → t.entry? d = s.entry? d) ∧
  t.report = s.reportEnded o op s.report ∧
  { t with
    stations := s.stations, ops := s.ops, round := s.round, collection := s.collection, report := s.report } = s

/-- A container's measurement in flight or its marked request is one that its operation waits for (R33). -/
def Container.verifying (k : Container) : Bool :=
  (k.marker.any fun m => m.tag.isSome) || k.est.flight.any fun x => x.tag.isSome

/-- The outcome with which the third miss of its station ends operation `op`: ABANDONED in PENDING and UNLATCHED (R148), PARTIAL when attempt 3 is answered
failed (R13, R34, R142). -/
def State.offlineOutcome (s : State) (op : Operation) : Option LiftOutcome :=
  match op.phase with
  | .pending => some .abandoned
  | .unlatched => some .abandoned
  | .lifted => none
  | .returned =>
    if op.attempts = 3 ∧ (s.container? op.container).any Container.verifying = true then some .partialLift else none

/-! ### Sound states, block by block -/

/-- The report queue is sound: at most 64 records, in order of priority descending, ATTN following the queue (R175, R178), every priority 0..7; and
of the bound actions in flight none is complete, since an action whose last part ends has its event posted at once (R169). -/
def ReportOk (s : State) : Prop :=
  s.report.queue.length ≤ 64 ∧
  s.report.queue.Pairwise (fun a b => b.event.priority ≤ a.event.priority) ∧
  s.report.attn = s.report.queue.any (fun r => decide (s.tuning.attention ≤ r.event.priority)) ∧
  (∀ r ∈ s.report.queue, r.event.priority ≤ 7) ∧
  (∀ b ∈ s.bindings, b.priority ≤ 7) ∧
  (∀ a ∈ s.actions, a.event.priority ≤ 7 ∧ a.complete = false)

/-- The directory and the watch list are sound: at most 8192 records with strictly ascending ids, fields in range, no weight on a CREW card (R65);
at most 16 watch entries with distinct ids (R84). -/
def TablesOk (s : State) : Prop :=
  s.directory.cards.length ≤ 8192 ∧
  s.directory.cards.Pairwise (fun a b => a.id < b.id) ∧
  (∀ r ∈ s.directory.cards, r.used ≤ 254 ∧ r.reserved ≤ 4 ∧ (∀ w, r.weight = some w → 1 ≤ w ∧ w ≤ 4) ∧ (r.cls = .crew → r.weight = none)) ∧
  s.watch.length ≤ 16 ∧
  s.watch.Pairwise (fun a b => a.id ≠ b.id)

/-- The collection list is sound: at most 64 entries, every one of a container in use, one entry per container, in list order (R113, R114); and what
keeps it so: sixteen station records. -/
def ListOk (s : State) : Prop :=
  s.stations.length = 16 ∧
  s.collection.length ≤ 64 ∧
  (∀ e ∈ s.collection, (s.container? e.container).isSome = true) ∧
  s.collection.Pairwise (fun a b => a.container ≠ b.container) ∧
  s.collection.Pairwise (fun a b => a.before b = true)

/-- The emptying operations are sound (R113, R124, R129): four slots, one operation per container, one crane position per station, distinct start
orders that run from 0, every entry CLAIMED in the open round, none in CONFIGURE; and a container in UNLATCHED, LIFTED or RETURNED has its
hatch LOCKED (R100). -/
def EmptyingOk (s : State) : Prop :=
  s.ops.length = 4 ∧
  s.operations.Pairwise (fun a b => a.container ≠ b.container) ∧
  s.operations.Pairwise (fun a b => a.container / 4 = b.container / 4 → ¬(a.phase.holdsCrane = true ∧ b.phase.holdsCrane = true)) ∧
  s.operations.Pairwise (fun a b => a.order ≠ b.order) ∧
  (∀ op ∈ s.operations, op.order < s.operations.length) ∧
  (∀ op ∈ s.operations, s.round.isSome = true ∧ ∃ e ∈ s.collection, e.container = op.container ∧ e.claimed = true) ∧
  (s.mode = .configure → s.operations = [] ∧ s.round = none) ∧
  (∀ op ∈ s.operations, op.phase.holdsCrane = true → ∀ k, s.container? op.container = some k → k.hatch.state = .locked) ∧
  s.collection.Pairwise (fun a b => a.container ≠ b.container)

/-- The lock and latch outputs are sound: in a state whose operations are sound, with every hatch LOCKED in CONFIGURE, a hatch under force release is
RELEASED, or OPEN with no admission and to return to RELEASED, and no operation is in being (R109, R130, R131); the lock stands at RELEASE exactly while the hatch is not LOCKED (R96, R102, R109), and
the latch at RELEASE exactly in UNLATCHED and LIFTED (R136, R138). -/
def OutputsOk (s : State) : Prop :=
  EmptyingOk s ∧
  (s.mode = .configure → ∀ c k, s.container? c = some k → k.hatch.state = .locked) ∧
  ∀ c k, s.container? c = some k →
    (k.hatch.force = .release → k.hatch.state ≠ .locked ∧ k.hatch.admission = none ∧ k.hatch.closeAction = .returnToReleased ∧
      s.opOf c = none) ∧
    (k.outputs.lock = .release ↔ k.hatch.state ≠ .locked) ∧
    (k.outputs.latch = .release ↔ (s.phaseOf c = some .unlatched ∨ s.phaseOf c = some .lifted))

/-- The weight units that the open admissions of a card hold. -/
def State.openWeight (s : State) (id : CardId) : Nat :=
  (s.containersInUse.map fun c =>
    match (s.container? c).bind fun k => k.hatch.admission with
    | some a => if a.card = id then a.weight else 0
    | none => 0).sum

/-- The accounts of cards are sound: reserved is the weight of the card's open admissions (R89), used plus reserved stays within an allowance below
255 (R71); and what keeps them so: one record per id, weights of at least 1, every admission of a card that exists, none at a LOCKED hatch, every
hatch LOCKED in CONFIGURE, at most four slots at a station. -/
def AccountsOk (s : State) : Prop :=
  s.directory.cards.Pairwise (fun a b => a.id < b.id) ∧
  (∀ r ∈ s.directory.cards, r.reserved = s.openWeight r.id ∧ (r.allowance < 255 → r.used + r.reserved ≤ r.allowance)) ∧
  (∀ r ∈ s.directory.cards, ∀ w, r.weight = some w → 1 ≤ w) ∧
  (∀ c k a, s.container? c = some k → k.hatch.admission = some a →
    (s.card? a.card).isSome = true ∧ k.hatch.state ≠ .locked ∧ 1 ≤ a.weight) ∧
  (s.mode = .configure → ∀ c k, s.container? c = some k → k.hatch.state = .locked) ∧
  (∀ t st, s.station? t = some st → st.slots.length ≤ 4)

/-- A container's estimate is sound: its setups in range (R24), S, P, C, R and the hour baseline within 0..16000 (R41, R43, R45), C and L as stage 3
gives them (R43), counts within their ranges, the band UNKNOWN exactly while S is unknown (R50); with no latched setup the estimator as it comes
into use, and no measurement requested (R25, R31). -/
def Container.EstimateOk (k : Container) : Prop :=
  (∀ x, k.latched = some x → x.inRange = true) ∧
  (∀ x, k.written = some x → x.inRange = true) ∧
  (∀ v, k.est.smoothed = some v → v ≤ 16000) ∧
  k.est.credit ≤ 16000 ∧
  k.est.credited = min 16000 (k.est.smoothed.getD 0 + k.est.credit) ∧
  k.est.level = (k.est.credited + 8) / 16 ∧
  k.est.rate ≤ 16000 ∧
  (∀ v, k.est.baseline = some v → v ≤ 16000) ∧
  k.est.forecast ≤ 255 ∧
  k.est.rejected ≤ 255 ∧
  k.est.deposits ≤ 65535 ∧
  k.est.count ≤ 4 ∧
  (k.est.smoothed = none ↔ k.est.band = none) ∧
  (k.latched = none → k.est = .fresh ∧ k.marker = none)

/-- Every container's estimate is sound. -/
def EstimatesOk (s : State) : Prop := ∀ c k, s.container? c = some k → k.EstimateOk

/-- The stations are sound: sixteen records, one to four slots each; SUSPENDED exactly in CONFIGURE or OFFLINE (R158); three misses exactly when
OFFLINE (R15); no settle window running at a SUSPENDED station (R161); the written marker set exactly while a setup is pending (R25); in CONFIGURE
every periodic and post-deposit timer stopped (R28) and, what keeps them so, every hatch LOCKED (R191). -/
def StationsOk (s : State) : Prop :=
  s.stations.length = 16 ∧
  ∀ t st, s.station? t = some st →
    (1 ≤ st.slots.length ∧ st.slots.length ≤ 4) ∧
    (st.status = .suspended ↔ (s.mode = .configure ∨ st.online = false)) ∧
    (if st.online = true then st.misses < 3 else st.misses = 3) ∧
    ∀ k ∈ st.slots,
      k.writtenMarker = k.written.isSome ∧
      (st.status = .suspended → k.settleHL.running = false ∧ k.settleLL.running = false) ∧
      (s.mode = .configure → k.est.periodic = none ∧ k.est.postDeposit = none ∧ k.hatch.state = .locked)

/-- The settings and the ports are sound: eighteen bindings, RESTARTED enabled (R173), at most eight presentations waiting (R90), every TUNING
item in its range (R186), a period length of 1 to 31 days (R67), an inactivity timer exactly in GRANTED, a failure count of at most 3 (section 10.5),
both receivers idle between commands (DESIGN CHOICE, assumption 2). -/
def SettingsOk (s : State) : Prop :=
  s.bindings.length = 18 ∧
  (s.bindingOf .restarted).enabled = true ∧
  s.waiting.length ≤ 8 ∧
  (60 ≤ s.tuning.interval ∧ s.tuning.interval ≤ 7200) ∧
  (5 ≤ s.tuning.postDeposit ∧ s.tuning.postDeposit ≤ 120) ∧
  (5 ≤ s.tuning.releaseWindow ∧ s.tuning.releaseWindow ≤ 60) ∧
  (30 ≤ s.tuning.depositTime ∧ s.tuning.depositTime ≤ 600) ∧
  (60 ≤ s.tuning.liftWait ∧ s.tuning.liftWait ≤ 900) ∧
  (1 ≤ s.tuning.settleTime ∧ s.tuning.settleTime ≤ 10) ∧
  s.tuning.horizon ≤ 254 ∧
  s.tuning.attention ≤ 7 ∧
  (1 ≤ s.directory.periodLength ∧ s.directory.periodLength ≤ 31) ∧
  (s.grant.inactivity.isSome = true ↔ s.grant.state = .granted) ∧
  s.grant.failures ≤ 3 ∧
  s.gateway.receiver = .idle ∧
  s.service.receiver = .idle

end Sys2Proof.Machine
end

