-- ==== Sys2Proof/WellFormed.lean ====
section
/-!
DEFINITION. Which commands name something the part could meet: numbers in range, frames no longer than a frame can be, POLL replies no longer than
a bus frame can be.
-/
namespace Sys2Proof

/-- A container number (chapter 0, "Numbering of stations and containers"). -/
def containerFits (c : Nat) : Bool := decide (c < 64)

/-- A frame's body is 1 to 240 bytes, of which the message kind is the first (R180). -/
def Frame.fits (f : Frame) : Bool := decide (f.params.length ≤ 239)

/-- A request kind of the part (R185). -/
def knownKind (kind : Byte) : Bool := decide (1 ≤ kind.toNat ∧ kind.toNat ≤ 39)

/-- A SET_MODE frame that belongs to the row of this target: its parameter byte is the target's code. A frame whose parameters name no mode, which
every row refuses alike, may stand in any of the three rows. -/
def targetFits (code : Nat) (f : Frame) : Bool :=
  match f.params with
  | [b] => b.toNat == code || decide (2 < b.toNat)
  | _ => true

/-- A POLL reply, from its start byte to its check byte: 5 bytes around a body of at most 255 (R10). -/
def replyFits (bytes : List Byte) : Bool := decide (5 ≤ bytes.length ∧ bytes.length ≤ 260)

/-- The part could meet this command. -/
def Instr.wellFormed : Instr → Bool
  | .coldStart => true
  | .warmStart => true
  | .clockTick => true
  | .hourBoundary => true
  | .stationVisit => true
  | .pollReply bytes => replyFits bytes
  | .pollReplyInvalid => true
  | .busByteGapTimeout => true
  | .pollReplyTimeout => true
  | .lampHoldExpiry c => containerFits c
  | .periodicTimerExpiry c => containerFits c
  | .postDepositTimerExpiry c => containerFits c
  | .echoTimeout c => containerFits c
  | .releaseWindowExpiry c => containerFits c
  | .depositTimerExpiry c => containerFits c
  | .liftWaitExpiry c => containerFits c
  | .liftedTimerExpiry c => containerFits c
  | .attemptTimerExpiry c => containerFits c
  | .settleWindowExpiry c _ => containerFits c
  | .confirmationWindowExpiry _ c => containerFits c
  | .cardPut _ f => f.fits
  | .cardPutRecordStep => true
  | .cardDelete _ f => f.fits
  | .cardDeleteRecordStep => true
  | .cardGet _ f => f.fits
  | .cardNext _ f => f.fits
  | .watchSet _ f => f.fits
  | .watchClear _ f => f.fits
  | .watchList _ f => f.fits
  | .fractionRules _ f => f.fits
  | .stationDefine _ f => f.fits
  | .stationRead _ f => f.fits
  | .containerSetup _ f => f.fits
  | .containerRead _ f => f.fits
  | .measureNow _ f => f.fits
  | .setClock _ f => f.fits
  | .forceLock _ f => f.fits
  | .forceRelease _ f => f.fits
  | .forceCancel _ f => f.fits
  | .listAdd _ f => f.fits
  | .listRemove _ f => f.fits
  | .listRead _ f => f.fits
  | .roundOpen _ f => f.fits
  | .roundClose _ f => f.fits
  | .liftStart _ f => f.fits
  | .unblock _ f => f.fits
  | .integrityMask _ f => f.fits
  | .inputSetup _ f => f.fits
  | .eventBinding _ f => f.fits
  | .eventsFetch _ f => f.fits
  | .flagsClear _ f => f.fits
  | .tuning _ f => f.fits
  | .ident _ f => f.fits
  | .status _ f => f.fits
  | .restart _ f => f.fits
  | .setModeConfigure _ f => f.fits && targetFits 0 f
  | .setModeOperate _ f => f.fits && targetFits 1 f
  | .setModeSupervise _ f => f.fits && targetFits 2 f
  | .continueSegment _ f => f.fits
  | .unknownRequestKind _ kind f => f.fits && !knownKind kind
  | .busyFrameDiscard _ body => decide (1 ≤ body.length ∧ body.length ≤ 240)
  | .frameLengthInvalid _ n => decide (n.toNat = 0 ∨ 240 < n.toNat)
  | .frameGapTimeout _ => true
  | .replySent _ => true
  | .unlock _ f => f.fits
  | .serviceEnd _ f => f.fits
  | .inactivityTimerExpiry => true
  | .serviceClear _ f => f.fits
  | .serviceCode _ f => f.fits

end Sys2Proof
end

