-- ==== Sys2Proof/Certificates/Slice0/Obligations.lean ====
section
/-!
DEFINITION. The statements for the provers. In a statement about a request, `request kind params` is its frame with the right check byte, `s.taken p` is
the state once the port has taken it, and `s.answer p kind code data` that state with the reply sent.
-/
open Sys2Proof Sys2Proof.Machine

/-! ### The machine as a whole -/

/-- One step is exec of the command at the front of the queue, on the state with the rest waiting. The queue is the model's own, and that an empty one
idles is its choice (assumptions 22 and 26). -/
def Obligations.StepTakesFrontCommand : Prop :=
  (∀ (s : State) (c : Instr) (rest : List Instr), s.pending = c :: rest → step s = exec c { s with pending := rest }) ∧
  ∀ s : State, s.pending = [] → step s = .next s

/-- Every command answers a next state in every state, which may be the same state, and none touches the queue of waiting commands. That none stops
the part is the model's reading (assumption 23), and the queue, which COLD_START keeps too, is the model's own (assumptions 21, 22 and 26). -/
def Obligations.EveryCommandKeepsQueue : Prop := ∀ (c : Instr) (s : State), ∃ t, exec c s = .next t ∧ t.pending = s.pending

/-- Every step keeps the report queue at no more than 64 records in priority order, with ATTN following it (R175, R176, R178), and leaves no complete
bound action in flight (R169). -/
def Obligations.ReportKept : Prop := ∀ s t : State, ReportOk s → step s = .next t → ReportOk t

/-- Every step keeps the directory within 8192 records of strictly ascending ids, the watch list within 16 entries of distinct ids (R65, R84), and the
collection list in list order with at most 64 entries, each of a container in use and no two of one (R113, R114). -/
def Obligations.TablesAndListKept : Prop :=
  (∀ s t : State, TablesOk s → step s = .next t → TablesOk t) ∧ ∀ s t : State, ListOk s → step s = .next t → ListOk t

/-- Every step keeps the operations and the lock and latch outputs sound (R100, R113, R129, R132), and no operation in being at a container under
force release (R109, R130, R131). -/
def Obligations.OutputsKept : Prop := ∀ s t : State, OutputsOk s → step s = .next t → OutputsOk t

/-- In a sound state the expected HL is 0 exactly while the lock output stands at RELEASE, and, outside LIFTED, the expected LL is 0 exactly while the
latch output does; in LIFTED all five contacts are excluded (R153). -/
def Obligations.PatternFollowsOutputs : Prop :=
  ∀ (s : State) (c : Nat) (k : Container), OutputsOk s → s.container? c = some k →
    ((s.pattern c).hl = some false ↔ k.outputs.lock = .release) ∧
    (s.phaseOf c ≠ some .lifted → ((s.pattern c).ll = some false ↔ k.outputs.latch = .release)) ∧
    (s.phaseOf c = some .lifted → s.pattern c = .all none)

/-- Every step keeps the accounts of cards: reserved is the weight of a card's open admissions, and used plus reserved stays within an allowance below
255 (R71, R89). -/
def Obligations.AccountsKept : Prop := ∀ s t : State, AccountsOk s → step s = .next t → AccountsOk t

/-- Every step keeps every container's estimate in its ranges, C and L as stage 3 gives them, and the band UNKNOWN exactly while S is unknown. That C
and L are stored at all is the model's choice (assumption 16), and so are values of a container with no latched setup (assumptions 15 and 20). -/
def Obligations.EstimatesKept : Prop := ∀ s t : State, EstimatesOk s → step s = .next t → EstimatesOk t

/-- Every step keeps the stations sound (status and misses, R15, R158; no settle window at a SUSPENDED station, R161; the written markers, R25; in
CONFIGURE the estimator's timers stopped, R28), and the settings and ports. That both receivers are idle between commands is the model's choice
(assumption 2). -/
def Obligations.StationsAndSettingsKept : Prop :=
  (∀ s t : State, StationsOk s → step s = .next t → StationsOk t) ∧ ∀ s t : State, SettingsOk s → step s = .next t → SettingsOk t

/-- The state after reset is sound in every respect above. That reset is the end of the start is the model's choice (assumption 21). -/
def Obligations.ResetIsSound : Prop :=
  ReportOk .reset ∧ TablesOk .reset ∧ ListOk .reset ∧ OutputsOk .reset ∧ AccountsOk .reset ∧ EstimatesOk .reset ∧ StationsOk .reset ∧
    SettingsOk .reset

/-! ### Requests and ports (section 10.1) -/

/-- A completed request is tested in the order of R182, on every port state: a busy port discards it (R183); otherwise CHECK, BARRED, DENIED, KIND,
LENGTH, PORT and MODE come in that order, each as a reply with no other effect than R184 and R194 give. The modes and ports are those of R192, kind by
kind: UNLOCK and SERVICE_END off the gateway link; SET_CLOCK, EVENTS_FETCH, SERVICE_CODE and SERVICE_CLEAR off the service port; the requests of
normal service and supervision off CONFIGURE; those of CONFIGURE and SUPERVISE off OPERATE; and so on. The kinds are 1 to 39, and the parameter bytes
that fit each are those of R185. That a busy port discards the frame of a request row is the model's reading of R183 (assumption 6). -/
def Obligations.RequestsInTestOrder : Prop :=
  ((∀ (i : Instr) (p : Port) (kind : Byte) (f : Frame), requestOf i = some (p, kind, f) → ∀ s : State,
    ((s.port p).busy = true → exec i s = .next (s.updPort p fun q => { q with receiver := .idle })) ∧
    ((s.port p).busy = false → f.check ≠ checkOf (kind :: f.params) →
      exec i s = .next ((s.updPort p fun q => { q with receiver := .idle, busy := true }).reply p kind .check [])) ∧
    ((s.port p).busy = false → f.check = checkOf (kind :: f.params) →
      (p = .service → s.grant.state = .barred → exec i s = .next (s.answer p kind .barred [])) ∧
      (p = .service → s.grant.state = .restricted → kind ≠ 1 → kind ≠ 19 → exec i s = .next (s.answer p kind .denied [])) ∧
      ((p = .service → s.grant.state = .granted ∨ (s.grant.state = .restricted ∧ (kind = 1 ∨ kind = 19))) →
        ∀ r, requestRule kind = some r →
          (r.fits f.params = false → exec i s = .next (s.answer p kind .length [])) ∧
          (r.fits f.params = true → r.onPort p = false → exec i s = .next (s.answer p kind .port [])) ∧
          (r.fits f.params = true → r.onPort p = true → r.inMode s.mode = false → exec i s = .next (s.answer p kind .mode []))))) ∧
  ∀ (s : State) (p : Port) (kind : Byte) (f : Frame), knownKind kind = false →
    ((s.port p).busy = true → exec (.unknownRequestKind p kind f) s = .next (s.updPort p fun q => { q with receiver := .idle })) ∧
    ((s.port p).busy = false → f.check ≠ checkOf (kind :: f.params) →
      exec (.unknownRequestKind p kind f) s =
        .next ((s.updPort p fun q => { q with receiver := .idle, busy := true }).reply p kind .check [])) ∧
    ((s.port p).busy = false → f.check = checkOf (kind :: f.params) →
      (p = .service → s.grant.state = .barred → exec (.unknownRequestKind p kind f) s = .next (s.answer p kind .barred [])) ∧
      (p = .service → s.grant.state = .restricted → exec (.unknownRequestKind p kind f) s = .next (s.answer p kind .denied [])) ∧
      ((p = .service → s.grant.state = .granted) → exec (.unknownRequestKind p kind f) s = .next (s.answer p kind .kind [])))) ∧
  (∀ kind : Byte, (knownKind kind = true ↔ 1 ≤ kind.toNat ∧ kind.toNat ≤ 39) ∧ ((requestRule kind).isSome = true ↔ knownKind kind = true)) ∧
  (∀ (kind : Byte) (r : RequestRule) (ps : List Byte), requestRule kind = some r →
    (kind.toNat ∈ [1, 2, 4, 7, 18, 20, 27, 29, 33] → (r.fits ps = true ↔ ps.length = 0)) ∧
    (kind.toNat ∈ [3, 8, 9, 10, 22, 30, 31, 34, 35, 36, 37, 38, 39] → (r.fits ps = true ↔ ps.length = 1)) ∧
    (kind.toNat = 13 → (r.fits ps = true ↔ ps.length = 2)) ∧
    (kind.toNat ∈ [14, 16, 32] → (r.fits ps = true ↔ ps.length = 4)) ∧
    (kind.toNat = 6 → (r.fits ps = true ↔ ps.length = 5)) ∧
    (kind.toNat ∈ [15, 21, 26] → (r.fits ps = true ↔ ps.length = 7)) ∧
    (kind.toNat ∈ [19, 25] → (r.fits ps = true ↔ ps.length = 8)) ∧
    (kind.toNat = 12 → (r.fits ps = true ↔ ps.length = 19)) ∧
    (kind.toNat = 5 → (r.fits ps = true ↔ ∃ pairs, pairs ≤ 8 ∧ ps.length = 3 * pairs)) ∧
    (kind.toNat = 11 → (r.fits ps = true ↔ ∃ t node n fractions, ps = t :: node :: n :: fractions ∧ fractions.length = n.toNat)) ∧
    (kind.toNat = 17 → (r.fits ps = true ↔ ps.length = 0 ∨ ps.length = 8)) ∧
    (kind.toNat = 23 → (r.fits ps = true ↔ ∃ n records, ps = n :: records ∧ records.length = 19 * n.toNat)) ∧
    (kind.toNat = 24 → (r.fits ps = true ↔ ∃ n ids, ps = n :: ids ∧ ids.length = 7 * n.toNat)) ∧
    (kind.toNat = 28 → (r.fits ps = true ↔ ∃ target rest, ps = target :: rest ∧ rest.length = if target.toNat = 1 then 3 else 9))) ∧
  ∀ (kind : Byte) (r : RequestRule), requestRule kind = some r →
    (r.onPort .gateway = false ↔ kind.toNat ∈ [19, 20]) ∧
    (r.onPort .service = false ↔ kind.toNat ∈ [6, 8, 17, 18]) ∧
    (r.inMode .configure = false ↔ kind.toNat ∈ [30, 31, 32, 33, 34, 35, 36, 37, 38, 39]) ∧
    (r.inMode .operate = false ↔ kind.toNat ∈ [11, 12, 13, 14, 15, 16, 17, 31, 36, 37, 38, 39]) ∧
    (r.inMode .supervise = false ↔ kind.toNat ∈ [11, 12, 13, 14, 15, 17])

/-- A request that names one container is refused RANGE above 63 and NOT_FOUND for a container not in use, before its own rule looks at anything else,
and changes nothing (R1). -/
def Obligations.NumbersChecked : Prop :=
  ∀ (s : State) (p : Port) (n : Nat) (setup : List Byte), Ready s p → setup.length = 18 →
    ∀ (i : Instr) (kind : Byte) (r : RequestRule),
      (i, kind) ∈
        [(Instr.containerRead p (request 9 [byteOf n]), (9 : Byte)), (.containerSetup p (request 12 (byteOf n :: setup)), 12),
          (.listAdd p (request 30 [byteOf n]), 30),
          (.listRemove p (request 31 [byteOf n]), 31), (.liftStart p (request 34 [byteOf n]), 34),
          (.measureNow p (request 35 [byteOf n]), 35), (.forceLock p (request 36 [byteOf n]), 36),
          (.forceRelease p (request 37 [byteOf n]), 37), (.forceCancel p (request 38 [byteOf n]), 38),
          (.unblock p (request 39 [byteOf n]), 39)] →
      requestRule kind = some r → r.inMode s.mode = true →
      (63 < n → n < 256 → exec i s = .next (s.answer p kind .range [])) ∧
      (n ≤ 63 → s.container? n = none → exec i s = .next (s.answer p kind .notFound []))

/-- A frame discarded at a busy port, a frame of a wrong length and a frame broken off by a gap leave the receiver idle and change nothing else: no
reply, no effect, the segment remainder kept (R181, R183, R184). The end of a reply frees its port and keeps its remainder; RESTART is answered OK,
and the end of that reply brings a warm start (R183, R188). That REPLY_SENT itself performs a RESTART's warm start is the model's choice (assumption
5). -/
def Obligations.PortsFreed : Prop :=
  (∀ (s : State) (p : Port) (body : List Byte) (n : Byte),
    exec (.busyFrameDiscard p body) s = .next (s.updPort p fun q => { q with receiver := .idle }) ∧
    exec (.frameLengthInvalid p n) s = .next (s.updPort p fun q => { q with receiver := .idle }) ∧
    exec (.frameGapTimeout p) s = .next (s.updPort p fun q => { q with receiver := .idle })) ∧
  (∀ (s : State) (p : Port) (bytes : List Byte), (s.port p).reply = some bytes →
    ((s.port p).restartDue = false → exec (.replySent p) s = .next (s.updPort p fun q => { q with busy := false, reply := none })) ∧
    ((s.port p).restartDue = true → exec (.replySent p) s = exec .warmStart s)) ∧
  ∀ (s : State) (p : Port), Ready s p →
    exec (.restart p (request 4 [])) s = .next ((s.answer p 4 .ok []).updPort p fun q => { q with restartDue := true })

/-- A reply's data reach the host whole: from the state in which it is sent, its first segment and as many CONTINUE requests as its length calls for
collect exactly the data fixed when the request was taken; CONTINUE sends the next bytes with the kind and code of the original request, and is
answered RANGE with no remainder (R184). The frame of a reply, byte by byte: start, length, kind, result code, segment marker 1 while bytes remain and
0 otherwise, at most 236 bytes of data, check (R180); the result codes have the values of the table of section 10.2. -/
def Obligations.SegmentsCarrySnapshot : Prop :=
  (∀ (s : State) (p : Port) (kind : Byte) (code : ResultCode) (data : List Byte) (n : Nat),
    (s.port p).restartDue = false → (s.port p).remainder = none → (p = .service → s.grant.state = .granted) →
    data.length ≤ 236 * (n + 1) → collect n p (s.reply p kind code data) = data) ∧
  (∀ (s : State) (p : Port), Ready s p →
    (∀ r, (s.port p).remainder = some r → exec (.continueSegment p (request 7 [])) s = .next (s.answer p r.kind r.code r.rest)) ∧
    ((s.port p).remainder = none → exec (.continueSegment p (request 7 [])) s = .next (s.answer p 7 .range []))) ∧
  (∀ (s : State) (p : Port) (kind : Byte) (code : ResultCode) (data body : List Byte),
    body = [kind, code.value, if 236 < data.length then 1 else 0] ++ data.take 236 →
    ((s.reply p kind code data).port p).reply =
      some ([0xA5, byteOf body.length] ++ body ++ [body.foldl (· ^^^ ·) (byteOf body.length)]) ∧
    ((s.reply p kind code data).port p).remainder =
      (if 236 < data.length then some { kind := kind, code := code, rest := data.drop 236 } else (s.port p).remainder) ∧
    { (s.reply p kind code data) with gateway := s.gateway, service := s.service } = s ∧
    (∀ q, q ≠ p → (s.reply p kind code data).port q = s.port q) ∧
    ((s.reply p kind code data).port p).busy = (s.port p).busy) ∧
  [ResultCode.ok, .clamped, .check, .length, .kind, .mode, .port, .range, .busy, .notFound, .full, .held, .noSlot, .noRound, .notListed, .offline,
    .forced, .incomplete, .denied, .barred, .noCode, .endOfWalk].map ResultCode.value = (List.range 22).map byteOf

/-- The requests that only read answer with what the state holds and change nothing else: IDENT also on a RESTRICTED service port, STATUS,
STATION_READ of one record or of all sixteen, CONTAINER_READ, LIST_READ, WATCH_LIST (R4, R49, R86, R122, R187). A station record is its items in the
order of R4, 14 bytes and 9 for each slot; LIST_READ is the 5 byte header and a 13 byte block for each entry in list order (R122). The layout of items
that a rule only lists, the codes no rule gives, the bytes of outputs, and the zero in a bit no layout names are the model's choice (assumptions 1,
14, 40 and 41). -/
def Obligations.ReadsOnlyReply : Prop :=
  (∀ (s : State) (p : Port), (s.port p).busy = false → (p = .service → s.grant.state ≠ .barred) →
    exec (.ident p (request 1 [])) s =
      .next (s.answer p 1 .ok
        [0x57, 0x5A, 0x43, 0x36, 0x34, 3, 16, 64, 0x20, 0x00, 16, 8, 64, 4, 64, (if p = .gateway then 0 else 1),
          (match s.grant.state with
            | .restricted => 0
            | .granted => 1
            | .barred => 2)])) ∧
  (∀ (s : State) (p : Port), Ready s p →
    exec (.status p (request 2 [])) s =
      .next (s.answer p 2 .ok
        ([byteOf s.mode.code, byteOf s.startKind.code] ++ bytesOf 2 s.clock.day ++ bytesOf 3 s.clock.second ++ [yesNo s.clock.unset] ++
          bytesOf 2 (s.clock.day / s.directory.periodLength) ++
          [Config.replyCode (if s.round.isSome then .roundOpen else .roundClosed), byteOf s.operations.length,
            yesNo s.directory.edit.isSome, byteOf ((s.directory.edit.map fun e => portCode e.port).getD 255),
            byteOf s.waiting.length, byteOf s.report.queue.length, yesNo s.report.overflowed, yesNo s.report.attn,
            byteOf s.grant.state.code, byteOf s.grant.failures, yesNo s.grant.code.isSome, byteOf s.definedStations.length,
            byteOf s.offlineCount, byteOf s.containersInUse.length, byteOf s.blockedCount])) ∧
    (∀ t, t ≤ 15 → exec (.stationRead p (request 10 [byteOf t])) s = .next (s.answer p 10 .ok (s.stationRecord t))) ∧
    exec (.stationRead p (request 10 [255])) s = .next (s.answer p 10 .ok ((List.range 16).flatMap s.stationRecord)) ∧
    (∀ t, 15 < t → t < 255 → exec (.stationRead p (request 10 [byteOf t])) s = .next (s.answer p 10 .range [])) ∧
    (∀ c k, c < 64 → s.container? c = some k →
      exec (.containerRead p (request 9 [byteOf c])) s = .next (s.answer p 9 .ok (s.statusRecord c k))) ∧
    exec (.listRead p (request 29 [])) s = .next (s.answer p 29 .ok s.listData) ∧
    exec (.watchList p (request 27 [])) s =
      .next (s.answer p 27 .ok
        (byteOf s.watch.length :: s.watch.flatMap fun e => bytesOf 7 e.id.toNat ++ [byteOf e.action.code]))) ∧
  (∀ (s : State) (t : Nat), s.station? t = none → s.stationRecord t = [byteOf t, 0]) ∧
  (∀ (s : State) (t : Nat) (st : Station), s.station? t = some st →
    let record := s.stationRecord t
    let n := st.slots.length
    record.length = 14 + 9 * n ∧
    record.take 4 = [byteOf t, 1, byteOf st.node, byteOf n] ∧
    (∀ i k, st.slots[i]? = some k →
      record[4 + i]? = some (byteOf k.fraction.code) ∧
      (record.drop (7 + n + 8 * i)).take 8 =
        [acceptedByte k.contacts.hc.accepted, acceptedByte k.contacts.hl.accepted, acceptedByte k.contacts.ll.accepted,
          acceptedByte k.contacts.se.accepted, acceptedByte k.contacts.pd.accepted,
          (if k.outputs.lock = .release then 1 else 0), (if k.outputs.latch = .release then 1 else 0),
          (match k.outputs.lamp with
            | .off => 0
            | .green => 1
            | .red digit => byteOf (16 + digit))]) ∧
    (record.drop (4 + n)).take 3 =
      [Config.replyCode (if st.online = true then .online else .offline), byteOf st.misses,
        (if st.acknowledged = some st.revision then 1 else 0)] ∧
    record.drop (7 + 9 * n) =
      [acceptedByte st.inputs.door.accepted, acceptedByte st.inputs.flood.accepted, acceptedByte st.inputs.aux.accepted,
        yesNo st.flags.door, yesNo st.flags.flood, yesNo st.flags.aux, yesNo st.flags.offline]) ∧
  (acceptedByte (some false) = 0 ∧ acceptedByte (some true) = 1 ∧ acceptedByte none = 2) ∧
  ∀ s : State,
    s.listData.length = 5 + 13 * s.collection.length ∧
    s.listData.take 5 =
      byteOf s.collection.length :: Config.replyCode (if s.round.isSome = true then .roundOpen else .roundClosed) ::
        (match s.round with
          | none => [0, 0, 0]
          | some r => bytesOf 2 r.stations.toNat ++ [byteOf r.capacity]) ∧
    ∀ i e k, s.collection[i]? = some e → s.container? e.container = some k →
      ∃ marks : Byte, (s.listData.drop (5 + 13 * i)).take 13 =
          [byteOf e.container, marks] ++ bytesOf 2 e.day ++ bytesOf 3 e.second ++ [byteOf e.forecast] ++ bytesOf 2 k.est.credited ++
            bytesOf 2 k.est.level ++ [byteOf ((k.est.band.map Band.number).getD 255)] ∧
        marks.toNat % 8 = e.reason.code ∧ marks.getLsbD 3 = e.claimed ∧ marks.getLsbD 4 = decide (k.est.sensor = .faulty) ∧
        marks.getLsbD 5 = k.blocked.isSome ∧ marks.getLsbD 6 = (s.opOf e.container).isSome ∧ marks.getLsbD 7 = false

/-- The container status record is 56 bytes, with its items at the offsets of the table of R49, for a container whose estimate is sound. With no
latched setup S and C_h are unknown, the band UNKNOWN, the sensor UNSEEN, the setup area and the numeric fields zero; that offsets 22 to 26 read
65535, 65535 and 255 then is the model's choice (assumption 36), and so is its H (assumption 15). The bits that the table does not name are 0, its
choice too (assumption 41). -/
def Obligations.ContainerRecordLayout : Prop :=
  ∀ (s : State) (c : Nat) (k : Container), c < 64 → k.EstimateOk →
    let record := s.statusRecord c k
    record.length = 56 ∧
    field record 0 1 = c ∧
    field record 1 1 % 8 = k.fraction.code ∧
    field record 1 1 / 8 =
      (match k.latched, k.written with
        | none, none => 0
        | some _, none => 1
        | some _, some _ => 2
        | none, some _ => 3) ∧
    field record 2 1 % 4 = k.est.sensor.code ∧
    (field record 2 1).testBit 2 = decide (k.est.sensor = .faulty) ∧
    (field record 2 1).testBit 3 = k.est.smoothed.isSome ∧
    (field record 2 1).testBit 4 = k.est.baseline.isSome ∧
    (field record 2 1).testBit 5 = k.est.flight.isSome ∧
    (field record 2 1).testBit 6 = k.marker.isSome ∧
    (field record 2 1).testBit 7 = (k.est.flight.bind Flight.tag).isSome ∧
    field record 3 1 = k.est.rejected ∧
    field record 4 2 = k.est.smoothed.getD 0 ∧
    field record 6 2 = k.est.credit ∧
    field record 8 2 = k.est.credited ∧
    field record 10 2 = k.est.level ∧
    field record 12 2 = k.est.rate ∧
    field record 14 2 = k.est.baseline.getD 0 ∧
    field record 16 1 = k.est.forecast ∧
    field record 17 1 = (k.est.band.map Band.number).getD 255 ∧
    field record 18 1 = (k.est.candidate.map Band.number).getD 255 ∧
    field record 19 1 = k.est.count ∧
    field record 20 2 = k.est.deposits ∧
    (k.est.periodic = none → field record 22 2 = 65535) ∧
    (∀ n, k.est.periodic = some n → n ≤ 7200 → field record 22 2 = n) ∧
    (k.est.last = none → field record 24 2 = 65535 ∧ field record 26 1 = 255) ∧
    (∀ x, k.est.last = some x →
      (record.drop 24).take 10 =
        bytesOf 2 x.distance ++ [byteOf x.quality] ++ bytesOf 2 x.level ++ bytesOf 2 x.day ++ bytesOf 3 x.second) ∧
    field record 34 1 = k.hatch.state.code + 4 * k.hatch.force.code ∧
    field record 35 1 = ((s.phaseOf c).map Phase.code).getD 0 ∧
    field record 36 1 = blockCode k.blocked ∧
    field record 37 1 =
      (match s.entry? c with
        | none => 0
        | some e => e.reason.code + if e.claimed = true then 8 else 0) ∧
    (∀ i, (field record 38 1).testBit i = (k.flags.bits[i]?).getD false) ∧
    k.flags.bits =
      [k.flags.passNotice, k.flags.passFull, k.flags.passLock, k.flags.overfill, k.flags.sensorFault, k.flags.hatchHeldOpen,
        k.flags.actuatorFault, k.flags.integrity] ∧
    (∀ x, k.latched = some x → record.drop 39 =
      bytesOf 2 x.emptyDistance ++ bytesOf 2 x.fullDistance ++ [byteOf x.perWeight, byteOf x.alpha, byteOf x.confirmations] ++
        bytesOf 2 x.tNotice ++ bytesOf 2 x.tFull ++ bytesOf 2 x.tLock ++ [byteOf x.hysteresis] ++ bytesOf 2 x.tEmpty ++
        [byteOf (x.passNotice.code + 4 * x.passFull.code + 16 * x.passLock.code)]) ∧
    (k.latched = none →
      (record.drop 2).take 32 =
        List.replicate 15 0 ++ [255, 255, 0, 0, 0] ++ [255, 255, 255, 255, 255] ++ List.replicate 7 0 ∧
      record.drop 39 = List.replicate 17 0)

/-! ### Settings and tables -/

/-- TUNING with an unknown item changes nothing; otherwise it applies its pairs in order, each clamped, ATTN follows the attention level at once, and
every item is listed in the reply in code order with its value, in two bytes where the range of the item passes 255 and in one otherwise (R185),
CLAMPED when some pair lies outside the range of its item (R178, R186). That each listed value follows its item's code is the model's reading
(assumption 14). -/
def Obligations.TuningApplied : Prop :=
  (∀ (s : State) (p : Port) (ps : List Byte), Ready s p → ps.length % 3 = 0 → ps.length ≤ 24 →
    ((∃ x ∈ tuningPairs ps, x.1 = 0 ∨ 8 < x.1) → exec (.tuning p (request 5 ps)) s = .next (s.answer p 5 .range [])) ∧
    ((∀ x ∈ tuningPairs ps, 1 ≤ x.1 ∧ x.1 ≤ 8) →
      exec (.tuning p (request 5 ps)) s =
        .next (({ s.taken p with
            tuning := s.tuning.apply (tuningPairs ps)
            report :=
              { s.report with
                attn := s.report.queue.any fun r => decide ((s.tuning.apply (tuningPairs ps)).attention ≤ r.event.priority) } }).reply
          p 5 (if clampsAny (tuningPairs ps) then .clamped else .ok) (s.tuning.apply (tuningPairs ps)).bytes))) ∧
  (∀ (a : Nat × Nat) (l : List (Nat × Nat)) (x : Tuning), x.apply (a :: l) = (x.apply [a]).apply l) ∧
  (∀ (x : Tuning) (v : Nat),
    x.apply [(1, v)] = { x with interval := max 60 (min 7200 v) } ∧
    x.apply [(2, v)] = { x with postDeposit := max 5 (min 120 v) } ∧
    x.apply [(3, v)] = { x with releaseWindow := max 5 (min 60 v) } ∧
    x.apply [(4, v)] = { x with depositTime := max 30 (min 600 v) } ∧
    x.apply [(5, v)] = { x with liftWait := max 60 (min 900 v) } ∧
    x.apply [(6, v)] = { x with settleTime := max 1 (min 10 v) } ∧
    x.apply [(7, v)] = { x with horizon := min 254 v } ∧
    x.apply [(8, v)] = { x with attention := min 7 v }) ∧
  (∀ l : List (Nat × Nat), clampsAny l = true ↔
    ∃ a ∈ l, ∃ low high,
      (a.1, low, high) ∈ [(1, 60, 7200), (2, 5, 120), (3, 5, 60), (4, 30, 600), (5, 60, 900), (6, 1, 10), (7, 0, 254), (8, 0, 7)] ∧
      (a.2 < low ∨ high < a.2)) ∧
  (∀ x : Tuning,
    x.bytes =
      [1] ++ bytesOf 2 x.interval ++ [2, byteOf x.postDeposit, 3, byteOf x.releaseWindow, 4] ++ bytesOf 2 x.depositTime ++ [5] ++
        bytesOf 2 x.liftWait ++ [6, byteOf x.settleTime, 7, byteOf x.horizon, 8, byteOf x.attention]) ∧
  tuningPairs [] = [] ∧
  ∀ (i v : Nat) (rest : List Byte), i < 256 → v < 65536 → tuningPairs (byteOf i :: bytesOf 2 v ++ rest) = (i, v) :: tuningPairs rest

/-- SET_CLOCK gives the clock its day and second and clears UNSET, and sets every latched container's hour baseline to its C, changing nothing else; a
second out of range is refused RANGE (R9, R47). That an hour boundary already due stays due is the model's choice (assumption 4). -/
def Obligations.ClockSet : Prop :=
  ∀ (s : State) (day second : Nat), (s.port .gateway).busy = false → day ≤ 65535 →
    (second ≤ 86399 →
      ∃ t : State, exec (.setClock .gateway (request 6 (bytesOf 2 day ++ bytesOf 3 second))) s =
          .next (t.reply .gateway 6 .ok (bytesOf 2 day ++ bytesOf 3 second)) ∧
        t.clock = { s.clock with day := day, second := second, unset := false } ∧
        (∀ c, t.container? c = (s.container? c).map fun k =>
          if k.latched.isSome then { k with est := { k.est with baseline := some k.est.credited } } else k) ∧
        (∀ u, (t.station? u).map (fun st => { st with slots := [] }) = (s.station? u).map fun st => { st with slots := [] }) ∧
        { t with clock := s.clock, stations := s.stations } = s.taken .gateway) ∧
    (86399 < second → second < 16777216 →
      exec (.setClock .gateway (request 6 (bytesOf 2 day ++ bytesOf 3 second))) s = .next (s.answer .gateway 6 .range []))

/-- EVENTS_FETCH of 1 to 8 takes that many records from the head of the queue, clears the overflowed marker, lets ATTN follow, and replies with the
counts, the marker as read and the records; another count is refused RANGE (R177, R178). A record travels in the form of R174, header and body field
by field, class by class. The bits that the form does not name are 0, the model's choice (assumption 41). -/
def Obligations.EventsFetched : Prop :=
  (∀ (s : State) (n : Nat), (s.port .gateway).busy = false →
    (1 ≤ n → n ≤ 8 →
      exec (.eventsFetch .gateway (request 8 [byteOf n])) s =
        .next (({ s.taken .gateway with
            report :=
              { s.report with
                queue := s.report.queue.drop n
                overflowed := false
                attn := (s.report.queue.drop n).any fun r => decide (s.tuning.attention ≤ r.event.priority) } }).reply .gateway 8 .ok
          ([byteOf (min n s.report.queue.length), byteOf (s.report.queue.length - n), yesNo s.report.overflowed] ++
            (s.report.queue.take n).flatMap Record.bytes))) ∧
    (n = 0 ∨ (8 < n ∧ n < 256) →
      exec (.eventsFetch .gateway (request 8 [byteOf n])) s = .next (s.answer .gateway 8 .range []))) ∧
  (∀ r : Record, r.event.priority ≤ 7 →
    (r.bytes.drop 1).take 1 =
      [byteOf (r.event.priority + (match r.result with
        | .none => 0
        | .done => 8
        | .incomplete => 16))] ∧
    r.bytes.take 1 = [byteOf r.event.cls.code] ∧
    (r.bytes.drop 2).take 11 =
      bytesOf 2 r.seq.toNat ++ bytesOf 2 r.event.day ++ bytesOf 3 r.event.second ++
        [byteOf (r.event.station.getD 255), byteOf (r.event.container.getD 255), byteOf r.notEngaged.toNat, byteOf (r.bytes.length - 13)] ∧
    r.bytes.drop 13 =
      (match r.event.body with
        | .restarted kind mode => [(if kind = .cold then 0 else 1), byteOf mode.code]
        | .levelPassage threshold upward level => [byteOf threshold, (if upward = true then 0 else 1)] ++ bytesOf 2 level
        | .overfill distance => bytesOf 2 distance
        | .sensorFault rejected => [byteOf rejected]
        | .sensorRecovered level => bytesOf 2 level
        | .admissionDenied id code => bytesOf 7 id.toNat ++ [byteOf code.value]
        | .cardWatch id action => bytesOf 7 id.toNat ++ [byteOf action.code]
        | .hatchHeldOpen (some id) => bytesOf 7 id.toNat ++ [1]
        | .hatchHeldOpen none => [0, 0, 0, 0, 0, 0, 0, 0]
        | .emptyingDone outcome phase (.card id) attempts verified deposits =>
          [byteOf outcome.code, byteOf phase.code, 0] ++ bytesOf 7 id.toNat ++ [byteOf attempts] ++ bytesOf 2 (verified.getD 65535) ++
            bytesOf 2 deposits
        | .emptyingDone outcome phase .host attempts verified deposits =>
          [byteOf outcome.code, byteOf phase.code, 1, 0, 0, 0, 0, 0, 0, 0, byteOf attempts] ++ bytesOf 2 (verified.getD 65535) ++
            bytesOf 2 deposits
        | .listEntry reason previous claimed forecast level =>
          [byteOf reason.code, byteOf ((previous.map Reason.code).getD 0), (if claimed = true then 1 else 0), byteOf forecast] ++
            bytesOf 2 level
        | .integrity bs =>
          byteOf bs.length :: bs.flatMap fun b =>
            [byteOf b.container, byteOf (ofBits [b.mismatch.hc, b.mismatch.hl, b.mismatch.ll, b.mismatch.se, b.mismatch.pd]),
              byteOf (ofBits [b.accepted.hc, b.accepted.hl, b.accepted.ll, b.accepted.se, b.accepted.pd])]
        | .actuatorFault .lock expected accepted => [0, yesNo expected, acceptedByte accepted]
        | .actuatorFault .latch expected accepted => [1, yesNo expected, acceptedByte accepted]
        | .input accepted trigger => [yesNo accepted, (if trigger = .edge then 0 else 1)]
        | .stationOffline => []
        | .stationOnline => []
        | .serviceBarred failures => [byteOf failures])) ∧
  [EventClass.restarted, .levelPassage, .overfill, .sensorFault, .sensorRecovered, .admissionDenied, .cardWatch, .hatchHeldOpen,
      .emptyingDone, .listEntry, .integrity, .actuatorFault, .doorInput, .floodInput, .auxInput, .stationOffline, .stationOnline,
      .serviceBarred].map EventClass.code = List.range' 1 18 ∧
  [RefusalCode.mode, .watched, .unknown, .suspended, .expired, .notHere, .fraction, .blocked, .forced, .lockedOut, .emptying, .busy,
      .multiple, .quota, .queueFull, .offline, .notListed, .noRound, .noSlot].map RefusalCode.value = List.range' 1 19 ∧
  [LiftOutcome.emptied, .partialLift, .abandoned, .fault].map LiftOutcome.code = [0, 1, 2, 3]

/-- STATION_DEFINE of 1 to 4 slots: the station's scanner state starts afresh, containers in use before and after keep their records under the new
fraction, others come into use fresh, those left out cease to exist with their list entries; no other station changes. Of no slots: the station goes
with its containers and their list entries, and a visit to it is abandoned (R2, R3, R11). A station above 15, more than 4 slots, and with slots a node
of 0 or above 31 or of another station, or a code of no fraction, are RANGE, with nothing changed (R2). That a visit to a redefined station goes on is
the model's choice (assumption 32). -/
def Obligations.StationDefined : Prop :=
  (∀ (s : State) (p : Port) (t node : Nat) (codes : List Byte) (fs : List Fraction), Ready s p → s.mode = .configure → StationsOk s → t ≤ 15 →
    1 ≤ codes.length → codes.length ≤ 4 → 1 ≤ node → node ≤ 31 → (∀ u st, u ≠ t → s.station? u = some st → st.node ≠ node) →
    codes.map BitVec.toNat = fs.map Fraction.code →
    ∃ u : State, exec (.stationDefine p (request 11 (byteOf t :: byteOf node :: byteOf codes.length :: codes))) s = .next (u.reply p 11 .ok []) ∧
      (∀ v, v ≠ t → u.station? v = s.station? v) ∧
      (∃ st : Station, u.station? t = some st ∧
        { st with slots := [] } =
          ({ node := node, online := true, misses := 0, inputs := PerInput.all Filter.cleared, revision := 0, acknowledged := none,
             resend := true, inputSetup := ((s.station? t).map Station.inputSetup).getD InputSetup.default,
             flags := ((s.station? t).map Station.flags).getD StationFlags.clear, status := .suspended, slots := [] } : Station) ∧
        st.slots.length = fs.length ∧
        ∀ i f, fs[i]? = some f →
          u.container? (4 * t + i) = some
            (match s.container? (4 * t + i) with
              | some k => { k with fraction := f, outputs := .rest, lampHold := none, marker := none, contacts := .all .cleared }
              | none => Container.fresh f)) ∧
      u.collection = s.collection.filter (fun e =>
        !(e.container / 4 == t && decide (codes.length ≤ e.container % 4) && (s.container? e.container).isSome)) ∧
      { u with stations := s.stations, collection := s.collection, actions := s.actions, report := s.report } = s.taken p) ∧
  (∀ (s : State) (p : Port) (t : Nat) (node : Byte), Ready s p → s.mode = .configure → StationsOk s → t ≤ 15 →
    ∃ u : State, exec (.stationDefine p (request 11 [byteOf t, node, 0])) s = .next (u.reply p 11 .ok []) ∧
      u.station? t = none ∧
      (∀ v, v ≠ t → u.station? v = s.station? v) ∧
      u.collection = s.collection.filter (fun e => !(e.container / 4 == t && (s.container? e.container).isSome)) ∧
      u.bus = (if s.bus.visiting = some t then { s.bus with visiting := none } else s.bus) ∧
      { u with stations := s.stations, collection := s.collection, actions := s.actions, report := s.report, bus := s.bus } = s.taken p) ∧
  ∀ (s : State) (p : Port) (t node : Nat) (codes : List Byte), Ready s p → s.mode = .configure → t < 256 → node < 256 → codes.length ≤ 236 →
    (15 < t ∨ 4 < codes.length ∨
      (codes ≠ [] ∧
        (node = 0 ∨ 31 < node ∨ (∃ b ∈ codes, 4 < b.toNat) ∨ ∃ u st, u ≠ t ∧ s.station? u = some st ∧ st.node = node))) →
    exec (.stationDefine p (request 11 (byteOf t :: byteOf node :: byteOf codes.length :: codes))) s = .next (s.answer p 11 .range [])

/-- CONTAINER_SETUP stores a setup in range as the pending setup and sets the written marker, and that is all it changes; its parameters spell every
field, for every presence byte a field carried takes its bytes and one not carried its default, and a setup out of range, by the bounds and the
orderings of the setup table, is refused RANGE (R24, R25, R185). That a presence or passage mode byte with an unused bit set is refused RANGE is the
model's reading (assumption 14). -/
def Obligations.SetupStored : Prop :=
  (∀ (s : State) (p : Port) (c : Nat) (k : Container) (x : Setup), Ready s p → s.mode = .configure → c < 64 → s.container? c = some k →
    x.inRange = true →
    exec (.containerSetup p (request 12 (byteOf c :: 0x7F :: x.bytes))) s =
      .next (((s.taken p).updContainer c fun k => { k with written := some x, writtenMarker := true }).reply p 12 .ok [])) ∧
  (∀ (s : State) (p : Port) (k : Container) (ps : List Byte), Ready s p → s.mode = .configure → ps.length = 19 → byteAt ps 0 < 64 →
    s.container? (byteAt ps 0) = some k → (setupOf ps).inRange = false →
    exec (.containerSetup p (request 12 ps)) s = .next (s.answer p 12 .range [])) ∧
  (∀ (s : State) (p : Port) (k : Container) (ps : List Byte), Ready s p → s.mode = .configure → ps.length = 19 → byteAt ps 0 < 64 →
    s.container? (byteAt ps 0) = some k →
    (128 ≤ byteAt ps 1 ∨ ((byteAt ps 1).testBit 6 = true ∧ 64 ≤ byteAt ps 18) →
      exec (.containerSetup p (request 12 ps)) s = .next (s.answer p 12 .range [])) ∧
    (byteAt ps 1 < 128 → ((byteAt ps 1).testBit 6 = true → byteAt ps 18 < 64) → (setupOf ps).inRange = true →
      exec (.containerSetup p (request 12 ps)) s =
        .next (((s.taken p).updContainer (byteAt ps 0) fun k => { k with written := some (setupOf ps), writtenMarker := true }).reply p 12 .ok
          []))) ∧
  (∀ (c presence e f v a n t1 t2 t3 h te modes : Nat) (x : Setup), c < 256 → presence < 256 → e < 65536 → f < 65536 → v < 256 → a < 256 →
    n < 256 → t1 < 65536 → t2 < 65536 → t3 < 65536 → h < 256 → te < 65536 → modes < 256 →
    x = setupOf ([byteOf c, byteOf presence] ++ bytesOf 2 e ++ bytesOf 2 f ++ [byteOf v, byteOf a, byteOf n] ++ bytesOf 2 t1 ++
      bytesOf 2 t2 ++ bytesOf 2 t3 ++ [byteOf h] ++ bytesOf 2 te ++ [byteOf modes]) →
    x.emptyDistance = e ∧ x.fullDistance = f ∧ x.perWeight = (if presence.testBit 0 then v else 40) ∧
    x.alpha = (if presence.testBit 1 then a else 4) ∧ x.confirmations = (if presence.testBit 2 then n else 2) ∧
    x.tNotice = (if presence.testBit 3 then t1 else 700) ∧ x.tFull = (if presence.testBit 3 then t2 else 900) ∧
    x.tLock = (if presence.testBit 3 then t3 else 980) ∧ x.hysteresis = (if presence.testBit 4 then h else 30) ∧
    x.tEmpty = (if presence.testBit 5 then te else 150) ∧ x.passNotice.code = (if presence.testBit 6 then modes % 4 else 1) ∧
    x.passFull.code = (if presence.testBit 6 then modes / 4 % 4 else 1) ∧
    x.passLock.code = (if presence.testBit 6 then modes / 16 % 4 else 3)) ∧
  (∀ x : Setup, x.inRange = true ↔
    (300 ≤ x.emptyDistance ∧ x.emptyDistance ≤ 4000) ∧ (100 ≤ x.fullDistance ∧ x.fullDistance + 200 ≤ x.emptyDistance) ∧ x.perWeight ≤ 255 ∧
    (1 ≤ x.alpha ∧ x.alpha ≤ 16) ∧ (1 ≤ x.confirmations ∧ x.confirmations ≤ 4) ∧
    (1 ≤ x.tNotice ∧ x.tNotice ≤ 1000 ∧ 1 ≤ x.tFull ∧ x.tFull ≤ 1000 ∧ 1 ≤ x.tLock ∧ x.tLock ≤ 1000 ∧ x.tNotice ≤ x.tFull ∧
      x.tFull ≤ x.tLock) ∧
    x.hysteresis ≤ 100 ∧ x.tEmpty < x.tNotice) ∧
  ∀ (c e f : Nat) (rest : List Byte), e < 65536 → f < 65536 →
    setupOf (byteOf c :: 0 :: bytesOf 2 e ++ bytesOf 2 f ++ rest) =
      { emptyDistance := e, fullDistance := f, perWeight := 40, alpha := 4, confirmations := 2, tNotice := 700, tFull := 900, tLock := 980,
        hysteresis := 30, tEmpty := 150, passNotice := .up, passFull := .up, passLock := .both }

/-- The requests that replace one setting do so and change nothing else: FRACTION_RULES (R67), EVENT_BINDING (R166, R173), INPUT_SETUP (R164),
SERVICE_CODE and SERVICE_CLEAR (R195). A class, enable, priority or action code that names nothing is RANGE; an undefined station of INPUT_SETUP is
NOT_FOUND, an unknown trigger code or an active value above 1 RANGE. The layout of a binding in a reply, the port state code of SERVICE_CLEAR's, RANGE
for a station number above 15, and NOT_FOUND before RANGE for an undefined station are the model's (assumptions 14 and 42). -/
def Obligations.SettingsReplaced : Prop :=
  (∀ (s : State) (p : Port) (charged period : Nat), Ready s p → s.mode = .configure →
    (charged < 32 → 1 ≤ period → period ≤ 31 →
      exec (.fractionRules p (request 13 [byteOf charged, byteOf period])) s =
        .next (({ s.taken p with
            directory := { s.directory with charged := BitVec.ofNat 5 charged, periodLength := period } }).reply p 13 .ok
          [byteOf charged, byteOf period])) ∧
    (charged < 256 → period < 256 → 32 ≤ charged ∨ period = 0 ∨ 31 < period →
      exec (.fractionRules p (request 13 [byteOf charged, byteOf period])) s = .next (s.answer p 13 .range []))) ∧
  (∀ (s : State) (p : Port) (cls : EventClass) (enable : Bool) (priority : Nat) (action : BoundAction), Ready s p → s.mode = .configure →
    (priority ≤ 7 → (cls = .restarted → enable = true) →
      (action = .none ∨ cls ∈ [EventClass.integrity, .actuatorFault, .doorInput, .floodInput, .auxInput, .overfill, .sensorFault, .hatchHeldOpen]) →
      exec (.eventBinding p (request 14 [byteOf cls.code, yesNo enable, byteOf priority, byteOf action.code])) s =
        .next (({ s.taken p with
            bindings := s.bindings.set (cls.code - 1) { enabled := enable, priority := priority, action := action } }).reply p 14 .ok
          [yesNo enable, byteOf priority, byteOf action.code])) ∧
    (priority < 256 → 7 < priority ∨ (cls = .restarted ∧ enable = false) ∨
        (action ≠ .none ∧
          cls ∉ [EventClass.integrity, .actuatorFault, .doorInput, .floodInput, .auxInput, .overfill, .sensorFault, .hatchHeldOpen]) →
      exec (.eventBinding p (request 14 [byteOf cls.code, yesNo enable, byteOf priority, byteOf action.code])) s =
        .next (s.answer p 14 .range []))) ∧
  (∀ (s : State) (p : Port) (t : Nat) (x : PerInput InputSetup), Ready s p → s.mode = .configure → t ≤ 15 → (s.station? t).isSome = true →
    exec (.inputSetup p (request 15
        [byteOf t, byteOf x.door.trigger.code, yesNo x.door.active, byteOf x.flood.trigger.code, yesNo x.flood.active,
          byteOf x.aux.trigger.code, yesNo x.aux.active])) s =
      .next (((s.taken p).updStation t fun st => { st with inputSetup := x }).reply p 15 .ok [])) ∧
  (∀ (s : State) (p : Port) (cls enable priority action : Nat), Ready s p → s.mode = .configure →
    cls < 256 → enable < 256 → priority < 256 → action < 256 →
    cls = 0 ∨ 18 < cls ∨ 1 < enable ∨ 7 < priority ∨ 3 < action →
    exec (.eventBinding p (request 14 [byteOf cls, byteOf enable, byteOf priority, byteOf action])) s = .next (s.answer p 14 .range [])) ∧
  (∀ (s : State) (p : Port) (t d1 d2 f1 f2 a1 a2 : Nat), Ready s p → s.mode = .configure → t < 256 →
    d1 < 256 → d2 < 256 → f1 < 256 → f2 < 256 → a1 < 256 → a2 < 256 →
    let answered := exec (.inputSetup p (request 15 ([t, d1, d2, f1, f2, a1, a2].map byteOf))) s
    (15 < t → answered = .next (s.answer p 15 .range [])) ∧
    (t ≤ 15 → s.station? t = none → answered = .next (s.answer p 15 .notFound [])) ∧
    (t ≤ 15 → (s.station? t).isSome = true → 1 < d1 ∨ 1 < d2 ∨ 1 < f1 ∨ 1 < f2 ∨ 1 < a1 ∨ 1 < a2 →
      answered = .next (s.answer p 15 .range []))) ∧
  (∀ (s : State) (bs : List Byte), Ready s .gateway → s.mode = .configure →
    (bs.length = 8 →
      exec (.serviceCode .gateway (request 17 bs)) s =
        .next (({ s.taken .gateway with
            grant := { s.grant with code := some (BitVec.ofNat 64 (numberOf bs)), failures := 0 } }).reply .gateway 17 .ok [])) ∧
    exec (.serviceCode .gateway (request 17 [])) s =
      .next (({ s.taken .gateway with grant := { s.grant with code := none, failures := 0 } }).reply .gateway 17 .ok [])) ∧
  ∀ s : State, Ready s .gateway →
    exec (.serviceClear .gateway (request 18 [])) s =
      .next (({ s.taken .gateway with
          grant := { s.grant with failures := 0, state := if s.grant.state = GrantState.barred then .restricted else s.grant.state } }).reply .gateway 18
        .ok [byteOf s.grant.state.code, byteOf s.grant.failures])

/-- INTEGRITY_MASK replaces the station's mask, contact k of slot s in bit 5 × s + k; a window or a fault of a masked HL or LL ends; the station is
evaluated unless it is SUSPENDED; nothing else changes but what confirmation parts bring about (R154, R157, R168). An undefined station is NOT_FOUND,
a set bit outside the station's slots RANGE, and in OPERATE it is refused MODE. The code of the station status in the reply is a free value
(assumption 1). That a masked DEFERRED contact stays DEFERRED, the layout of the sets in the reply, and that NOT_FOUND is tested before the bits are
the model's (assumptions 10, 14 and 42). -/
def Obligations.MaskReplaced : Prop :=
  (∀ (s : State) (p : Port) (t mask : Nat), Ready s p → t ≤ 15 → mask < 16777216 →
    (s.mode = .operate → exec (.integrityMask p (request 16 (byteOf t :: bytesOf 3 mask))) s = .next (s.answer p 16 .mode [])) ∧
    (s.mode ≠ .operate → s.station? t = none →
      exec (.integrityMask p (request 16 (byteOf t :: bytesOf 3 mask))) s = .next (s.answer p 16 .notFound []))) ∧
  ∀ (s : State) (p : Port) (t mask : Nat) (st : Station), Ready s p → s.mode ≠ .operate → t ≤ 15 → s.station? t = some st →
    st.slots.length ≤ 4 →
    (mask < 2 ^ (5 * st.slots.length) →
      ∃ (u : State) (st' : Station), exec (.integrityMask p (request 16 (byteOf t :: bytesOf 3 mask))) s =
          .next (u.reply p 16 .ok
            (bytesOf 3 mask ++ [Config.replyCode (u.statusOf t).replyCode] ++ bytesOf 3 (u.mismatchSet t))) ∧
        (∀ c k, c / 4 = t → s.container? c = some k →
          u.container? c = some
            { k with
              mask := contactBits mask (5 * (c % 4))
              settleHL := if mask.testBit (5 * (c % 4) + 1) ∧ k.settleHL ≠ .deferred then .included else k.settleHL
              settleLL := if mask.testBit (5 * (c % 4) + 2) ∧ k.settleLL ≠ .deferred then .included else k.settleLL }) ∧
        (∀ c, c / 4 ≠ t → u.container? c = s.container? c) ∧
        (∀ v, v ≠ t → u.station? v = s.station? v) ∧
        u.station? t = some st' ∧
        { st' with slots := [], status := .suspended } = { st with slots := [], status := .suspended } ∧
        st'.status = (if st.status = .suspended then .suspended else if u.stationMatched t then .armed else .unarmed) ∧
        { u with stations := s.stations, actions := s.actions, report := s.report } = s.taken p) ∧
    (2 ^ (5 * st.slots.length) ≤ mask → mask < 16777216 →
      exec (.integrityMask p (request 16 (byteOf t :: bytesOf 3 mask))) s = .next (s.answer p 16 .range []))

/-! ### The service port (section 10.5) -/

/-- UNLOCK, case by case (R193): on a GRANTED port OK with nothing compared; on a RESTRICTED port NO_CODE, a match that grants the port, a first or
second wrong code DENIED, a third that bars the port and posts SERVICE_BARRED. A grant ends at SERVICE_END, which is answered OK, and at the expiry of
the inactivity timer: the port RESTRICTED, the timer stopped, the service port's remainder discarded and its cursor "before first"; nothing else
changes (R81, R194). That the expiry is taken whatever the timer shows is the model's choice (assumption 3). -/
def Obligations.GrantsGivenAndEnded : Prop :=
  (∀ (s : State) (bs : List Byte), (s.port .service).busy = false → bs.length = 8 →
    (s.grant.state = .granted → exec (.unlock .service (request 19 bs)) s = .next (s.answer .service 19 .ok [])) ∧
    (s.grant.state = .barred → exec (.unlock .service (request 19 bs)) s = .next (s.answer .service 19 .barred [])) ∧
    (s.grant.state = .restricted →
      (s.grant.code = none → exec (.unlock .service (request 19 bs)) s = .next (s.answer .service 19 .noCode [])) ∧
      ∀ code, s.grant.code = some code →
        (BitVec.ofNat 64 (numberOf bs) = code →
          exec (.unlock .service (request 19 bs)) s =
            .next (({ s.taken .service with
              grant := { s.grant with state := .granted, failures := 0, inactivity := some 600 } }).reply .service 19 .ok [])) ∧
        (BitVec.ofNat 64 (numberOf bs) ≠ code → s.grant.failures ≤ 1 →
          exec (.unlock .service (request 19 bs)) s =
            .next (({ s.taken .service with grant := { s.grant with failures := s.grant.failures + 1 } }).reply .service 19 .denied [])) ∧
        (BitVec.ofNat 64 (numberOf bs) ≠ code → s.grant.failures = 2 →
          exec (.unlock .service (request 19 bs)) s =
            .next ((({ s.taken .service with grant := { s.grant with failures := 3, state := .barred } }).post .serviceBarred none none
              (.serviceBarred 3)).reply .service 19 .barred [])))) ∧
  (∀ s : State, Ready s .service →
    exec (.serviceEnd .service (request 20 [])) s =
      .next { s.answer .service 20 .ok [] with
        grant := { s.grant with state := .restricted, inactivity := none }
        directory := { s.directory with cursorService := none } }) ∧
  ∀ s : State, s.grant.state = .granted → s.grant.inactivity.isSome = true →
    exec .inactivityTimerExpiry s =
      .next { s with
        grant := { s.grant with state := .restricted, inactivity := none }
        directory := { s.directory with cursorService := none }
        service := { s.service with remainder := none } }

/-! ### The card directory and the watch list (chapter 4) -/

/-- CARD_GET moves the port's cursor to the id and returns the record or NOT_FOUND; CARD_NEXT returns up to n records above the cursor, in order, and
moves it to the last of them, or answers END; an edit from the other port makes both BUSY (R79, R82, R83). "Before first" lies below every id, a
cursor at an id has the strictly greater ids above it, and a move is of the one port's cursor alone (R81). The nineteen bytes of a record are those of
CardRecordRoundTrip (section 4.1). That a bad count is RANGE also during such an edit is the model's choice (assumption 37). -/
def Obligations.CardReads : Prop :=
  (∀ id : CardId, aboveCursor none id = true) ∧
  (∀ a id : CardId, aboveCursor (some a) id = true ↔ a.toNat < id.toNat) ∧
  (∀ (d : Directory) (p q : Port) (cur : Option CardId),
    (d.setCursor p cur).cursor q = (if q = p then cur else d.cursor q) ∧
    d.cursor .gateway = d.cursorGateway ∧ d.cursor .service = d.cursorService ∧
    { d.setCursor p cur with cursorGateway := d.cursorGateway, cursorService := d.cursorService } = d) ∧
  ∀ (s : State) (p : Port), Ready s p →
    (∀ id : CardId,
      ((∃ e, s.directory.edit = some e ∧ e.port ≠ p) →
        exec (.cardGet p (request 21 (bytesOf 7 id.toNat))) s = .next (s.answer p 21 .busy [])) ∧
      ((∀ e, s.directory.edit = some e → e.port = p) →
        exec (.cardGet p (request 21 (bytesOf 7 id.toNat))) s =
          .next (({ s.taken p with directory := s.directory.setCursor p (some id) }).reply p 21
            (if (s.card? id).isSome then .ok else .notFound) (((s.card? id).map Card.bytes).getD [])))) ∧
    ∀ n : Nat,
      (n = 0 ∨ (8 < n ∧ n < 256) → exec (.cardNext p (request 22 [byteOf n])) s = .next (s.answer p 22 .range [])) ∧
      (1 ≤ n → n ≤ 8 →
        ((∃ e, s.directory.edit = some e ∧ e.port ≠ p) → exec (.cardNext p (request 22 [byteOf n])) s = .next (s.answer p 22 .busy [])) ∧
        ((∀ e, s.directory.edit = some e → e.port = p) →
          ∀ found, found = (s.directory.cards.filter fun r => aboveCursor (s.directory.cursor p) r.id).take n →
            (found = [] → exec (.cardNext p (request 22 [byteOf n])) s = .next (s.answer p 22 .endOfWalk [])) ∧
            ∀ r, found.getLast? = some r →
              exec (.cardNext p (request 22 [byteOf n])) s =
                .next (({ s.taken p with directory := s.directory.setCursor p (some r.id) }).reply p 22 .ok
                  (bytesOf 2 s.directory.cards.length ++ [byteOf found.length] ++ found.flatMap Card.bytes))))

/-- CARD_PUT and CARD_DELETE of 1 to 8 records begin an edit with no reply yet; a count of 0 or above 8 is RANGE, an edit from the other port BUSY
(R75, R77, R79). That a bad count is RANGE also during such an edit is the model's choice (assumption 37). -/
def Obligations.EditBegins : Prop :=
  ∀ (s : State) (p : Port) (n : Nat) (body : List Byte), Ready s p → n < 256 →
    (body.length = 19 * n →
      (n = 0 ∨ 8 < n → exec (.cardPut p (request 23 (byteOf n :: body))) s = .next (s.answer p 23 .range [])) ∧
      (1 ≤ n → n ≤ 8 → (∃ e, s.directory.edit = some e ∧ e.port ≠ p) →
        exec (.cardPut p (request 23 (byteOf n :: body))) s = .next (s.answer p 23 .busy [])) ∧
      (1 ≤ n → n ≤ 8 → (∀ e, s.directory.edit = some e → e.port = p) →
        exec (.cardPut p (request 23 (byteOf n :: body))) s =
          .next { s.taken p with
            directory := { s.directory with
              edit := some { port := p, work := .put ((List.range n).map fun i => cardFormAt (byteOf n :: body) (1 + 19 * i)), results := [] } } })) ∧
    (body.length = 7 * n →
      (n = 0 ∨ 8 < n → exec (.cardDelete p (request 24 (byteOf n :: body))) s = .next (s.answer p 24 .range [])) ∧
      (1 ≤ n → n ≤ 8 → (∃ e, s.directory.edit = some e ∧ e.port ≠ p) →
        exec (.cardDelete p (request 24 (byteOf n :: body))) s = .next (s.answer p 24 .busy [])) ∧
      (1 ≤ n → n ≤ 8 → (∀ e, s.directory.edit = some e → e.port = p) →
        exec (.cardDelete p (request 24 (byteOf n :: body))) s =
          .next { s.taken p with
            directory := { s.directory with
              edit := some
                { port := p, work := .delete ((List.range n).map fun i => cardIdAt (byteOf n :: body) (1 + 7 * i)), results := [] } } }))

/-- A card record survives the line: the bytes in which a record in range is returned spell, as a CARD_PUT record, the same fields; of the nineteen
bytes, offset 7 holds class, state and the presence bits, 10 to 12 fractions, allowance and used, 13 the reserved count, 14 and 15 the recorded
period; and a CARD_PUT record's bytes give each field of the form, the set usage bit and the reserved bits among them (section 4.1). -/
def Obligations.CardRecordRoundTrip : Prop :=
  (∀ r : Card, r.allowance ≤ 255 → r.used ≤ 254 → (∀ d, r.expiry = some d → d ≤ 65535) → (∀ w, r.weight = some w → w ≤ 255) →
    cardFormAt r.bytes 0 =
      { id := r.id, classCode := r.cls.code, suspended := r.suspended, hasExpiry := r.expiry.isSome, hasWeight := r.weight.isSome,
        setUsage := false, reservedBits := false, home := r.home, fractionByte := r.fractions.setWidth 8, allowance := r.allowance,
        used := r.used, expiry := r.expiry.getD 0, weight := r.weight.getD 0 }) ∧
  (∀ (r : Card) (presence : List Bool), r.allowance ≤ 255 → r.used ≤ 254 → r.reserved ≤ 255 → r.period ≤ 65535 →
    presence = [r.suspended, r.expiry.isSome, r.weight.isSome] →
    r.bytes.length = 19 ∧ field r.bytes 0 7 = r.id.toNat ∧ byteAt r.bytes 7 = r.cls.code + 4 * ofBits presence ∧
    field r.bytes 8 2 = r.home.toNat ∧ byteAt r.bytes 10 = r.fractions.toNat ∧ byteAt r.bytes 11 = r.allowance ∧ byteAt r.bytes 12 = r.used ∧
    byteAt r.bytes 13 = r.reserved ∧ field r.bytes 14 2 = r.period) ∧
  ∀ (id : CardId) (b fractions : Byte) (home : StationSet) (allowance used reserved period expiry weight : Nat),
    allowance < 256 → used < 256 → reserved < 256 → period < 65536 → expiry < 65536 → weight < 256 →
    cardFormAt
        (bytesOf 7 id.toNat ++ [b] ++ bytesOf 2 home.toNat ++ [fractions, byteOf allowance, byteOf used, byteOf reserved] ++ bytesOf 2 period ++
          bytesOf 2 expiry ++ [byteOf weight]) 0 =
      { id := id, classCode := b.toNat % 4, suspended := b.getLsbD 2, hasExpiry := b.getLsbD 3, hasWeight := b.getLsbD 4,
        setUsage := b.getLsbD 5, reservedBits := b.getLsbD 6 || b.getLsbD 7, home := home, fractionByte := fractions, allowance := allowance,
        used := used, expiry := expiry, weight := weight }

/-- One CARD_PUT record step: the result by the table of R76, its first row field by field; on OK the record of the form stored under its id, with no
weight for a CREW card, and every other record as it was, otherwise the table unchanged; the last step ends the edit, replies to its port with every
result, and serves the queued presentations (R76, R78, R91). One CARD_DELETE record step: NOT_FOUND, HELD while the card's reserved count is above 0,
or OK with the record removed, and the edit's end alike (R77). -/
def Obligations.RecordStepsTaken : Prop :=
  (∀ (s : State) (p : Port) (x : CardForm) (rest : List CardForm) (rs : List ResultCode),
    s.directory.edit = some { port := p, work := .put (x :: rest), results := rs } →
    ∃ (res : ResultCode) (cards : List Card),
      (rest ≠ [] →
        exec .cardPutRecordStep s =
          .next { s with
            directory := { s.directory with cards := cards, edit := some { port := p, work := .put rest, results := rs ++ [res] } } }) ∧
      (rest = [] →
        exec .cardPutRecordStep s =
          .next (({ s with directory := { s.directory with cards := cards, edit := none } }).reply p 23 .ok
            ((rs ++ [res]).map ResultCode.value)).serveWaiting) ∧
      (x.fieldsBad = true → res = .range) ∧
      (x.fieldsBad = false → s.card? x.id = none → 8192 ≤ s.directory.cards.length → res = .full) ∧
      (x.fieldsBad = false → s.card? x.id = none → s.directory.cards.length < 8192 →
        (x.allowance < 255 ∧ x.allowance < (if x.setUsage then x.used else 0) → res = .range) ∧
        (¬(x.allowance < 255 ∧ x.allowance < (if x.setUsage then x.used else 0)) →
          res = .ok ∧
          cards.find? (fun r => r.id == x.id) = some (x.record (if x.setUsage then x.used else 0) 0 (s.clock.day / s.directory.periodLength)))) ∧
      (∀ r, x.fieldsBad = false → s.card? x.id = some r →
        (x.allowance < 255 ∧ x.allowance < (if x.setUsage then x.used else r.used) + r.reserved → res = .range) ∧
        (¬(x.allowance < 255 ∧ x.allowance < (if x.setUsage then x.used else r.used) + r.reserved) →
          res = .ok ∧
          cards.find? (fun r => r.id == x.id) =
            some (x.record (if x.setUsage then x.used else r.used) r.reserved
              (if x.setUsage then s.clock.day / s.directory.periodLength else r.period)))) ∧
      (∀ id, id ≠ x.id → cards.find? (fun r => r.id == id) = s.card? id) ∧
      (res ≠ .ok → cards = s.directory.cards)) ∧
  (∀ (s : State) (p : Port) (id : CardId) (rest : List CardId) (rs : List ResultCode),
    s.directory.edit = some { port := p, work := .delete (id :: rest), results := rs } →
    ∃ (res : ResultCode) (cards : List Card),
      (rest ≠ [] →
        exec .cardDeleteRecordStep s =
          .next { s with
            directory := { s.directory with cards := cards, edit := some { port := p, work := .delete rest, results := rs ++ [res] } } }) ∧
      (rest = [] →
        exec .cardDeleteRecordStep s =
          .next (({ s with directory := { s.directory with cards := cards, edit := none } }).reply p 24 .ok
            ((rs ++ [res]).map ResultCode.value)).serveWaiting) ∧
      (s.card? id = none → res = .notFound ∧ cards = s.directory.cards) ∧
      (∀ r, s.card? id = some r →
        (0 < r.reserved → res = .held ∧ cards = s.directory.cards) ∧
        (r.reserved = 0 → res = .ok ∧ cards = s.directory.cards.filter fun y => y.id != id))) ∧
  (∀ x : CardForm, x.fieldsBad = true ↔
    x.classCode = 3 ∨ x.reservedBits = true ∨ 32 ≤ x.fractionByte.toNat ∨ (x.setUsage = true ∧ 254 < x.used) ∨
      (x.hasWeight = true ∧ ¬(1 ≤ x.weight ∧ x.weight ≤ 4)) ∨ (x.hasExpiry = false ∧ x.expiry ≠ 0) ∨ (x.hasWeight = false ∧ x.weight ≠ 0)) ∧
  ∀ (x : CardForm) (cls : CardClass) (used reserved period : Nat), (x.classCode, cls) ∈ [(0, CardClass.resident), (1, .business), (2, .crew)] →
    x.record used reserved period =
      { id := x.id, cls := cls, suspended := x.suspended, home := x.home, fractions := x.fractionByte.setWidth 5, allowance := x.allowance,
        used := used, reserved := reserved, period := period, expiry := if x.hasExpiry = true then some x.expiry else none,
        weight := if x.hasWeight = true ∧ cls ≠ .crew then some x.weight else none }

/-- WATCH_SET replaces the action of an entry in its place, appends a new one, or answers FULL at 16 entries; WATCH_CLEAR removes the entry or answers
NOT_FOUND (R85, R86). -/
def Obligations.WatchListEdits : Prop :=
  ∀ (s : State) (p : Port) (id : CardId) (a : WatchAction), Ready s p →
    ((∃ e ∈ s.watch, e.id = id) →
      exec (.watchSet p (request 25 (bytesOf 7 id.toNat ++ [byteOf a.code]))) s =
        .next (({ s.taken p with watch := s.watch.map fun (e : WatchEntry) => if e.id = id then { e with action := a } else e }).reply p 25 .ok []) ∧
      exec (.watchClear p (request 26 (bytesOf 7 id.toNat))) s =
        .next (({ s.taken p with watch := s.watch.filter fun (e : WatchEntry) => e.id != id }).reply p 26 .ok [])) ∧
    ((∀ e ∈ s.watch, e.id ≠ id) →
      (16 ≤ s.watch.length →
        exec (.watchSet p (request 25 (bytesOf 7 id.toNat ++ [byteOf a.code]))) s = .next (s.answer p 25 .full [])) ∧
      (s.watch.length < 16 →
        exec (.watchSet p (request 25 (bytesOf 7 id.toNat ++ [byteOf a.code]))) s =
          .next (({ s.taken p with watch := s.watch ++ [({ id := id, action := a } : WatchEntry)] }).reply p 25 .ok [])) ∧
      exec (.watchClear p (request 26 (bytesOf 7 id.toNat))) s = .next (s.answer p 26 .notFound [])) ∧
    ∀ code : Nat, 2 < code → code < 256 →
      exec (.watchSet p (request 25 (bytesOf 7 id.toNat ++ [byteOf code]))) s = .next (s.answer p 25 .range [])

/-! ### Levels and bands (chapters 2 and 3) -/

/-- The arithmetic of a level: stage 1 rounds to the nearest permille within 0..1000 (R40); stage 2 moves S by the truncated fraction α/16 of the
difference and stays within 0..16000 (R41); the forecast is 0 at the full threshold, 255 with no growth, and else the whole hours until it is reached,
at most 254 (R46); and the candidate of a container in a numbered band is, upward, the highest threshold reached, when it lies above the band, else,
downward, the highest reached when each threshold is lowered by h, when it lies below, else the band (R51). -/
def Obligations.LevelArithmetic : Prop :=
  (∀ (x : Setup) (d : Nat), x.inRange = true →
    x.levelAt d =
        ((x.emptyDistance - max x.fullDistance (min d x.emptyDistance)) * 2000 + (x.emptyDistance - x.fullDistance)) /
          (2 * (x.emptyDistance - x.fullDistance)) ∧
      x.levelAt d ≤ 1000 ∧ (d ≤ x.fullDistance → x.levelAt d = 1000) ∧ (x.emptyDistance ≤ d → x.levelAt d = 0)) ∧
  (∀ alpha f smoothed : Nat, 1 ≤ alpha → alpha ≤ 16 → f ≤ 1000 → smoothed ≤ 16000 →
    (smoothTo alpha f smoothed : Int) = (smoothed : Int) + Int.tdiv ((16 * (f : Int) - (smoothed : Int)) * (alpha : Int)) 16 ∧
      smoothTo alpha f smoothed ≤ 16000 ∧ smoothTo 16 f smoothed = 16 * f) ∧
  (∀ credited rate tFull : Nat,
    (16 * tFull ≤ credited → hoursToFull credited rate tFull = 0) ∧
    (credited < 16 * tFull → rate = 0 → hoursToFull credited rate tFull = 255) ∧
    (credited < 16 * tFull → 0 < rate →
      1 ≤ hoursToFull credited rate tFull ∧ hoursToFull credited rate tFull ≤ 254 ∧
      credited + (hoursToFull credited rate tFull - 1) * rate < 16 * tFull ∧
      (hoursToFull credited rate tFull < 254 → 16 * tFull ≤ credited + hoursToFull credited rate tFull * rate))) ∧
  ∀ (x : Setup) (b : Band) (l up down : Nat),
    Highest (fun k => x.threshold k ≤ l) up → Highest (fun k => (x.threshold k : Int) - x.hysteresis ≤ l) down →
    (x.candidate b l).number = if b.number < up then up else if down < b.number then down else b.number

/-- The accounts of one card (R70 to R73): a reservation rolls the period over, then is refused MULTIPLE above 4 reserved units or QUOTA above the
allowance, and otherwise holds its weight; a commit rolls over, charges a charged fraction and gives the weight up; a return gives it up alone. -/
def Obligations.CardAccounts : Prop :=
  ∀ (r : Card) (now w used : Nat), used = (if r.period = now then r.used else 0) →
    (r.rollover now) = { r with used := used, period := now } ∧
    (4 < r.reserved + w →
      (r.rollover now).reserveRefusal w = some .multiple ∧ r.reserve now w = { r with used := used, period := now }) ∧
    (r.reserved + w ≤ 4 → r.allowance < 255 → r.allowance < used + r.reserved + w →
      (r.rollover now).reserveRefusal w = some .quota ∧ r.reserve now w = { r with used := used, period := now }) ∧
    (r.reserved + w ≤ 4 → (r.allowance < 255 → used + r.reserved + w ≤ r.allowance) →
      (r.rollover now).reserveRefusal w = none ∧
      r.reserve now w = { r with used := used, period := now, reserved := r.reserved + w }) ∧
    r.commit now w true = { r with used := min 254 (used + w), period := now, reserved := r.reserved - w } ∧
    r.commit now w false = { r with used := used, period := now, reserved := r.reserved - w } ∧
    r.giveBack w = { r with reserved := r.reserved - w }

/-! ### Admission and the hatch (chapter 5) -/

/-- A presentation that passes every check is ADMITTED: the reservation held, the hatch RELEASED under its admission record with its window, the lock
at RELEASE, the lamp GREEN for 3 s; nothing else changes, in the directory either, but CARD_WATCH for a REPORT entry and what confirmation parts bring
about (R87, R92 to R96, R98). Every other is refused by the first check of R92 or, for a CREW card, of R130 that fails: its digit in RED for 3 s and
ADMISSION_DENIED, and besides only what the watch list did and the rollover of a refused reservation. During an edit it waits, or is QUEUE_FULL; the
queue is served oldest first; a container gone discards it, an OFFLINE station refuses it with no lamp (R90, R91). -/
def Obligations.AdmissionGranted : Prop :=
  (∀ (s : State) (c w used : Nat) (k : Container) (r : Card), s.directory.edit = none → s.container? c = some k → s.onlineAt c = true →
    s.mode ≠ .configure → (∀ e, s.watch.find? (fun e => e.id == r.id) = some e → e.action = .report) → s.card? r.id = some r →
    r.suspended = false →
    (∀ d, r.expiry = some d → s.clock.day ≤ d) → r.cls ≠ .crew → r.home.getLsbD (c / 4) = true → r.fractions.getLsbD k.fraction.code = true →
    k.blocked = none → k.hatch.force = .none → k.est.band ≠ some .lockout → s.opOf c = none → k.hatch.state = .locked →
    w = r.weight.getD 1 → used = (if r.period = s.clock.day / s.directory.periodLength then r.used else 0) → r.reserved + w ≤ 4 →
    (r.allowance < 255 → used + r.reserved + w ≤ r.allowance) →
    ∃ k' : Container,
      (s.present c r.id).card? r.id =
        some { r with used := used, period := s.clock.day / s.directory.periodLength, reserved := r.reserved + w } ∧
      (∀ id, id ≠ r.id → (s.present c r.id).card? id = s.card? id) ∧
      (s.present c r.id).container? c = some k' ∧
      k'.hatch =
        { k.hatch with
          state := .released
          admission := some { card := r.id, weight := w, charged := s.directory.charged.getLsbD k.fraction.code }
          window := some s.tuning.releaseWindow } ∧
      k'.outputs = { lock := .release, latch := k.outputs.latch, lamp := .green } ∧
      k'.lampHold = some 3 ∧
      SameButSettle { k' with hatch := k.hatch, outputs := k.outputs, lampHold := k.lampHold } k ∧
      (∀ st, s.station? (c / 4) = some st →
        k'.settleHL =
          (if st.status = .suspended ∨ k.mask.hl = true then k.settleHL
          else if k.contacts.hl.accepted = some false then .included
          else .settling s.tuning.settleTime) ∧
        k'.settleLL = k.settleLL) ∧
      { (s.present c r.id).directory with cards := s.directory.cards } = s.directory ∧
      (s.present c r.id).directory.cards.map Card.id = s.directory.cards.map Card.id ∧
      OnlyContainer c s (s.present c r.id) ∧
      (s.actions = [] → (s.present c r.id).report = (s.watched c r.id).report) ∧
      { s.present c r.id with
        stations := s.stations, directory := s.directory, actions := s.actions, report := s.report } = s) ∧
  (∀ (s : State) (c : Nat) (id : CardId),
    (s.directory.edit = none → s.present c id = s.serve c id) ∧
    (s.directory.edit.isSome = true →
      (s.waiting.length < 8 → s.present c id = { s with waiting := s.waiting ++ [({ container := c, card := id } : Presentation)] }) ∧
      (8 ≤ s.waiting.length → s.present c id = s.deny c id .queueFull)) ∧
    (s.waiting = [] → s.serveWaiting = s) ∧
    (∀ older, s.waiting = older ++ [({ container := c, card := id } : Presentation)] →
      s.serveWaiting = ({ s with waiting := older } : State).serveWaiting.serve c id) ∧
    (s.container? c = none → s.serve c id = s)) ∧
  (∀ (s : State) (c : Nat) (id : CardId) (k : Container), s.container? c = some k →
    (s.onlineAt c = false → s.serve c id = s.deny c id .offline) ∧
    (s.onlineAt c = true → s.mode = .configure → s.serve c id = s.deny c id .mode) ∧
    (s.onlineAt c = true → s.mode ≠ .configure →
      (∀ e, s.watch.find? (fun e => e.id == id) = some e → e.action = .deny ∨ e.action = .hold →
        s.serve c id = (s.watched c id).deny c id .watched) ∧
      ((∀ e, s.watch.find? (fun e => e.id == id) = some e → e.action = .report) →
        (s.card? id = none → s.serve c id = (s.watched c id).deny c id .unknown) ∧
        ∀ (r : Card) (w used : Nat), s.card? id = some r →
          w = r.weight.getD 1 → used = (if r.period = s.clock.day / s.directory.periodLength then r.used else 0) →
          (r.suspended = true → s.serve c id = (s.watched c id).deny c id .suspended) ∧
          (r.suspended = false → (∃ d, r.expiry = some d ∧ d < s.clock.day) → s.serve c id = (s.watched c id).deny c id .expired) ∧
          (r.suspended = false → (∀ d, r.expiry = some d → s.clock.day ≤ d) →
            (r.cls = .crew →
              ∀ code, code = firstFailing
                [(s.round.isNone, .noRound), (!((s.entry? c).map Entry.claimed).getD false, .notListed),
                  (k.hatch.force == .release, .forced), ((s.opOf c).isSome, .busy),
                  (s.operations.any fun op => op.container != c && op.container / 4 == c / 4 && op.phase != .pending, .busy),
                  (s.ops.all Option.isSome, .noSlot)] →
                (∀ x, code = some x → s.serve c id = (s.watched c id).deny c id x) ∧
                (code = none → s.serve c id = ((s.watched c id).start c (.card id)).showLamp c .green)) ∧
            (r.cls ≠ .crew → TablesOk s →
              ∀ code, firstFailing
                [(!r.home.getLsbD (c / 4), .notHere), (!r.fractions.getLsbD k.fraction.code, .fraction), (k.blocked.isSome, .blocked),
                  (k.hatch.force != .none, .forced), (k.est.band == some .lockout, .lockedOut), ((s.opOf c).isSome, .emptying),
                  (k.hatch.state != .locked, .busy), (decide (4 < r.reserved + w), .multiple),
                  (decide (r.allowance < 255 ∧ r.allowance < used + r.reserved + w), .quota)] = some code →
                s.serve c id =
                  (if code = .multiple ∨ code = .quota then
                    (s.watched c id).updCard id fun r => { r with used := used, period := s.clock.day / s.directory.periodLength }
                  else s.watched c id).deny c id code))))) ∧
  (∀ (s : State) (c : Nat) (id : CardId) (k : Container) (code : RefusalCode), s.container? c = some k →
    ∃ t : State, s.deny c id code = t ∧
      t.container? c = some
        (match code.digit with
          | none => k
          | some n => { k with outputs := { k.outputs with lamp := .red n }, lampHold := some 3 }) ∧
      OnlyContainer c s t ∧
      t.report = s.report.post s.tuning.attention
        (s.event .admissionDenied (some (c / 4)) (some c) (.admissionDenied id code)) .none 0 ∧
      { t with stations := s.stations, report := s.report } = s) ∧
  (∀ (s : State) (id : CardId) (f : Card → Card),
    s.updCard id f =
      { s with directory := { s.directory with cards := s.directory.cards.map fun r => if r.id = id then f r else r } }) ∧
  ∀ code : RefusalCode,
    code.digit =
      (match code with
        | .unknown => some 1
        | .suspended | .watched => some 2
        | .expired => some 3
        | .notHere => some 4
        | .fraction => some 5
        | .quota => some 6
        | .lockedOut => some 7
        | .mode | .blocked | .forced | .emptying | .notListed | .noRound => some 8
        | .busy | .queueFull | .multiple | .noSlot => some 9
        | .offline => none)

/-- FORCE_LOCK sets the force state LOCK and withdraws the hatch: a RELEASED hatch is LOCKED at once with its reservation returned and its lock at
ENGAGE, and an operation in PENDING makes its exit test; an OPEN one is left to close; a container already under force LOCK is answered OK with
nothing changed (R105, R106, R108, R134). That a hatch LOCKED by the withdrawal has the close action LOCK is the model's reading (assumption 19). -/
def Obligations.ForceLocked : Prop :=
  ∀ (s : State) (p : Port) (c : Nat) (k : Container), Ready s p → s.mode = .supervise → c < 64 → s.container? c = some k →
    (k.hatch.force = .lock → exec (.forceLock p (request 36 [byteOf c])) s = .next (s.answer p 36 .ok [])) ∧
    (k.hatch.force ≠ .lock →
      ∀ goes, goes = decide (k.hatch.state = .released ∧ s.phaseOf c = some .pending ∧ k.contacts.hl.accepted = some true ∧
          s.craneTaken c = false) →
      ∃ (t : State) (k' : Container), exec (.forceLock p (request 36 [byteOf c])) s = .next (t.reply p 36 .ok []) ∧
        t.ops = s.ops.map (Option.map fun op =>
          if goes = true ∧ op.container = c then { op with phase := .unlatched, timer := some s.tuning.liftWait } else op) ∧
        t.container? c = some k' ∧
        k'.hatch =
          (match k.hatch.state with
            | .locked => { k.hatch with force := .lock }
            | .released => { state := .locked, force := .lock, admission := none, window := none, deposit := none, closeAction := .lock }
            | .opened =>
              { k.hatch with force := .lock, closeAction := if k.hatch.force = .release then .lock else k.hatch.closeAction }) ∧
        k'.outputs =
          (if k.hatch.state = .released then
            { k.outputs with lock := .engage, latch := if goes then .release else k.outputs.latch }
          else k.outputs) ∧
        SameButSettle { k' with hatch := k.hatch, outputs := k.outputs } k ∧
        t.directory = ((s.taken p).returnAdmission (if k.hatch.state = .released then k.hatch.admission else none)).directory ∧
        OnlyContainer c s t ∧
        { t with stations := s.stations, directory := s.directory, ops := s.ops, actions := s.actions, report := s.report } = s.taken p)

/-- FORCE_RELEASE, in the order of its table: BUSY with an operation, OK under a force release, HELD with the hatch not LOCKED, OFFLINE; else the
hatch becomes RELEASED under force release with no window, its lock at RELEASE (R109). FORCE_CANCEL ends the force state: a force LOCK leaves the
hatch as it is, a RELEASED hatch under force release is LOCKED with its lock at ENGAGE, an OPEN one locks at its close; with no force state it changes
nothing (R111). That a hatch LOCKED from a force release has the close action LOCK is the model's reading (assumption 19). -/
def Obligations.ForceReleasedCancelled : Prop :=
  (∀ (s : State) (p : Port) (c : Nat) (k : Container), Ready s p → s.mode = .supervise → c < 64 → s.container? c = some k →
    ((s.opOf c).isSome = true → exec (.forceRelease p (request 37 [byteOf c])) s = .next (s.answer p 37 .busy [])) ∧
    (s.opOf c = none → k.hatch.force = .release → exec (.forceRelease p (request 37 [byteOf c])) s = .next (s.answer p 37 .ok [])) ∧
    (s.opOf c = none → k.hatch.force ≠ .release → k.hatch.state ≠ .locked →
      exec (.forceRelease p (request 37 [byteOf c])) s = .next (s.answer p 37 .held [])) ∧
    (s.opOf c = none → k.hatch.force ≠ .release → k.hatch.state = .locked → s.onlineAt c = false →
      exec (.forceRelease p (request 37 [byteOf c])) s = .next (s.answer p 37 .offline [])) ∧
    (s.opOf c = none → k.hatch.force ≠ .release → k.hatch.state = .locked → s.onlineAt c = true →
      ∃ (t : State) (k' : Container), exec (.forceRelease p (request 37 [byteOf c])) s = .next (t.reply p 37 .ok []) ∧
        t.container? c = some k' ∧
        k'.hatch =
          { k.hatch with state := .released, force := .release, admission := none, window := none, closeAction := .returnToReleased } ∧
        k'.outputs = { k.outputs with lock := .release } ∧
        SameButSettle { k' with hatch := k.hatch, outputs := k.outputs } k ∧
        OnlyHatch c (s.taken p) t)) ∧
  ∀ (s : State) (p : Port) (c : Nat) (k : Container), Ready s p → s.mode = .supervise → c < 64 → s.container? c = some k →
    (k.hatch.force = .none → exec (.forceCancel p (request 38 [byteOf c])) s = .next (s.answer p 38 .ok [])) ∧
    (k.hatch.force = .lock →
      ∃ (t : State) (k' : Container), exec (.forceCancel p (request 38 [byteOf c])) s = .next (t.reply p 38 .ok []) ∧
        t.container? c = some k' ∧ SameButSettle k' { k with hatch := { k.hatch with force := .none } } ∧ OnlyHatch c (s.taken p) t) ∧
    (k.hatch.force = .release → k.hatch.state = .released → k.hatch.admission = none → s.phaseOf c ≠ some .pending →
      ∃ (t : State) (k' : Container), exec (.forceCancel p (request 38 [byteOf c])) s = .next (t.reply p 38 .ok []) ∧
        t.container? c = some k' ∧
        SameButSettle k'
          { k with
            hatch := { state := .locked, force := .none, admission := none, window := none, deposit := none, closeAction := .lock }
            outputs := { k.outputs with lock := .engage } } ∧
        OnlyHatch c (s.taken p) t) ∧
    (k.hatch.force = .release → k.hatch.state = .opened →
      ∃ (t : State) (k' : Container), exec (.forceCancel p (request 38 [byteOf c])) s = .next (t.reply p 38 .ok []) ∧
        t.container? c = some k' ∧ SameButSettle k' { k with hatch := { k.hatch with force := .none, closeAction := .lock } } ∧
        OnlyHatch c (s.taken p) t)

/-- The release window of a RELEASED hatch expires: the hatch LOCKED, the reservation returned, the lock at ENGAGE (R102). The deposit timer of an
OPEN hatch expires: the timer stopped, the flag set and HATCH_HELD_OPEN raised, which with no action bound is posted (R104). An expiry of a stopped
timer changes nothing. That an expiry is taken whatever a running timer shows is the model's choice (assumption 3); that the hatch LOCKED has the
close action LOCK is its reading (assumption 19). -/
def Obligations.HatchTimersExpired : Prop :=
  ∀ (s : State) (c : Nat) (k : Container), s.container? c = some k →
    (k.hatch.state = .released → k.hatch.window.isSome = true →
      ∀ goes, goes = decide (s.phaseOf c = some .pending ∧ k.contacts.hl.accepted = some true ∧ s.craneTaken c = false) →
      ∃ (t : State) (k' : Container), exec (.releaseWindowExpiry c) s = .next t ∧
        t.ops = s.ops.map (Option.map fun op =>
          if goes = true ∧ op.container = c then { op with phase := .unlatched, timer := some s.tuning.liftWait } else op) ∧
        t.container? c = some k' ∧
        SameButSettle k'
          { k with
            hatch :=
              { state := .locked, force := if k.hatch.force = .release then .none else k.hatch.force, admission := none, window := none,
                deposit := none, closeAction := .lock }
            outputs := { k.outputs with lock := .engage, latch := if goes then .release else k.outputs.latch } } ∧
        t.directory = (s.returnAdmission k.hatch.admission).directory ∧
        OnlyContainer c s t ∧
        { t with stations := s.stations, directory := s.directory, ops := s.ops, actions := s.actions, report := s.report } = s) ∧
    (¬(k.hatch.state = .released ∧ k.hatch.window.isSome = true) → exec (.releaseWindowExpiry c) s = .next s) ∧
    (k.hatch.state = .opened → k.hatch.deposit.isSome = true →
      exec (.depositTimerExpiry c) s =
        .next ((s.updContainer c fun k =>
            { k with hatch := { k.hatch with deposit := none }, flags := { k.flags with hatchHeldOpen := true } }).raise .hatchHeldOpen (c / 4)
          (some c) [c] (.hatchHeldOpen (k.hatch.admission.map Admission.card)))) ∧
    (k.hatch.state = .opened → k.hatch.deposit.isSome = true → (s.bindingOf .hatchHeldOpen).action = .none →
      exec (.depositTimerExpiry c) s =
        .next ((s.updContainer c fun k =>
            { k with hatch := { k.hatch with deposit := none }, flags := { k.flags with hatchHeldOpen := true } }).postAt .hatchHeldOpen c
          (.hatchHeldOpen (k.hatch.admission.map Admission.card)))) ∧
    (¬(k.hatch.state = .opened ∧ k.hatch.deposit.isSome = true) → exec (.depositTimerExpiry c) s = .next s)

/-- An accepted change of HC moves the hatch (R101, R103): to 0 at a RELEASED hatch it is OPEN with its deposit timer; to 1 at an OPEN hatch the
deposit completes: under an admission the card is charged, the container credited with its weight and the hatch LOCKED; with none, credited with
weight 1, and RELEASED or LOCKED by the close action; a container with an operation in PENDING then leaves for UNLATCHED when HL is accepted at 1 and
the crane position is free (R134, R135). No other contact, and no other acceptance of HC, moves the hatch (R100): with HC to 1 it stays RELEASED with
its window running (R101), and with HC to 0 it stays OPEN. The credit recomputes C and L, raises the band at once to a higher candidate, with its
crossings, H and list requests as any band change, and never lowers it (R42, R43, R55, R57). That one handover moves the hatch once, and that a
container with no latched setup takes no credit, are the model's readings (assumptions 9 and 20). -/
def Obligations.HatchFollowsContact : Prop :=
  ∀ (s : State) (c : Nat) (k : Container) (acc : PerContact Acceptance), s.container? c = some k →
    (acc.hc ≠ .changed → s.admissionContacts c acc = s) ∧
    (acc.hc = .changed →
      (k.hatch.state = .locked → s.admissionContacts c acc = s) ∧
      (k.hatch.state = .released → k.contacts.hc.accepted = some true → s.admissionContacts c acc = s) ∧
      (k.hatch.state = .opened → k.contacts.hc.accepted = some false → s.admissionContacts c acc = s) ∧
      (k.hatch.state = .released → k.contacts.hc.accepted = some false →
        ∃ k' : Container, (s.admissionContacts c acc).container? c = some k' ∧
          SameButSettle k'
            { k with hatch := { k.hatch with state := .opened, window := none, deposit := some s.tuning.depositTime } } ∧
          OnlyHatch c s (s.admissionContacts c acc)) ∧
      (k.hatch.state = .opened → k.contacts.hc.accepted = some true →
        ∀ goes, goes = decide (s.phaseOf c = some .pending ∧ ¬(k.hatch.admission = none ∧ k.hatch.closeAction = .returnToReleased) ∧
            k.contacts.hl.accepted = some true ∧ s.craneTaken c = false) →
        ∃ k' : Container, (s.admissionContacts c acc).container? c = some k' ∧
          (s.admissionContacts c acc).opOf c =
            (s.opOf c).map (fun op => if goes then { op with phase := .unlatched, timer := some s.tuning.liftWait } else op) ∧
          k'.hatch =
            (match k.hatch.admission, k.hatch.closeAction with
              | some _, _ => { k.hatch with state := .locked, admission := none, deposit := none }
              | none, .returnToReleased => { k.hatch with state := .released, deposit := none }
              | none, .lock => { k.hatch with state := .locked, deposit := none }) ∧
          k'.outputs =
            (if k.hatch.admission = none ∧ k.hatch.closeAction = .returnToReleased then k.outputs
            else { k.outputs with lock := .engage, latch := if goes then .release else k.outputs.latch }) ∧
          (∀ x, k.latched = some x →
            k'.est.credit = min 16000 (k.est.credit + ((k.hatch.admission.map Admission.weight).getD 1) * x.perWeight) ∧
            k'.est.deposits = min 65535 (k.est.deposits + 1) ∧ k'.est.postDeposit = some s.tuning.postDeposit ∧
            k'.est.smoothed = k.est.smoothed) ∧
          (∀ x credit credited level band, k.latched = some x →
            credit = min 16000 (k.est.credit + ((k.hatch.admission.map Admission.weight).getD 1) * x.perWeight) →
            credited = min 16000 (k.est.smoothed.getD 0 + credit) → level = (credited + 8) / 16 →
            band = (k.est.band.map fun b => if b.number < (x.candidate b level).number then x.candidate b level else b) →
            k'.est =
              { k.est with
                credit := credit, credited := credited, level := level, deposits := min 65535 (k.est.deposits + 1)
                postDeposit := some s.tuning.postDeposit, band := band
                candidate := if band = k.est.band then k.est.candidate else none
                count := if band = k.est.band then k.est.count else 0
                forecast := if band = k.est.band then k.est.forecast else hoursToFull credited k.est.rate x.tFull } ∧
            (band = k.est.band →
              k'.flags = k.flags ∧ (s.admissionContacts c acc).collection = s.collection ∧
              (s.actions = [] → (s.admissionContacts c acc).report = s.report)) ∧
            ∀ new, band = some new →
              k'.flags = k.flags.passed (x.reported k.est.band new) ∧
              (s.admissionContacts c acc).entry? c =
                (bandListing k.est.band new (s.freshEntry c k'.est.forecast) (s.entry? c)).1 ∧
              (∀ d, d ≠ c → (s.admissionContacts c acc).entry? d = s.entry? d) ∧
              (s.actions = [] →
                (s.admissionContacts c acc).report = s.reportBand c x k.est.band new level k'.est.forecast s.report)) ∧
          (k.latched = none →
            k'.est = k.est ∧ k'.flags = k.flags ∧ (s.admissionContacts c acc).collection = s.collection ∧
            (s.actions = [] → (s.admissionContacts c acc).report = s.report)) ∧
          SameButSettle { k' with hatch := k.hatch, outputs := k.outputs, est := k.est, flags := k.flags } k ∧
          (s.admissionContacts c acc).ops =
            s.ops.map (Option.map fun op =>
              if goes = true ∧ op.container = c then { op with phase := .unlatched, timer := some s.tuning.liftWait } else op) ∧
          { s.admissionContacts c acc with
            stations := s.stations, directory := s.directory, collection := s.collection, ops := s.ops, actions := s.actions,
            report := s.report } = s ∧
          (s.admissionContacts c acc).directory =
            (match k.hatch.admission with
              | some a => (s.updCard a.card (Card.commit (s.clock.day / s.directory.periodLength) a.weight a.charged)).directory
              | none => s.directory) ∧
          OnlyContainer c s (s.admissionContacts c acc)))

/-! ### The collection list, rounds, emptying (chapters 6 and 7) -/

/-- LIST_ADD inserts the container with reason HOST, raises a less urgent reason to it, or leaves the entry, and says which; an insertion or a raise
posts LIST_ENTRY (R115, R120). LIST_REMOVE removes a LISTED entry, with NOT_FOUND and HELD for the other cases (R121). The layout and codes of the
LIST_ADD reply are the model's choice (assumptions 1 and 14). -/
def Obligations.ListRequests : Prop :=
  ∀ (s : State) (p : Port) (c : Nat) (k : Container), Ready s p → c < 64 → s.container? c = some k →
    (s.mode ≠ .configure →
      (s.entry? c = none →
        exec (.listAdd p (request 30 [byteOf c])) s =
          .next ((((s.taken p).place
              { container := c, reason := .host, claimed := false, day := s.clock.day, second := s.clock.second,
                forecast := k.est.forecast }).postAt .listEntry c (.listEntry .host none false k.est.forecast k.est.level)).reply p 30 .ok
            [5, 0, Config.replyCode .entryInserted])) ∧
      (∀ e, s.entry? c = some e →
        (e.reason = .forecast →
          exec (.listAdd p (request 30 [byteOf c])) s =
            .next ((((s.taken p).place { e with reason := .host, forecast := k.est.forecast }).postAt .listEntry c
                (.listEntry .host (some .forecast) e.claimed k.est.forecast k.est.level)).reply p 30 .ok
              [5, yesNo e.claimed, Config.replyCode .entryRaised])) ∧
        (e.reason ≠ .forecast →
          exec (.listAdd p (request 30 [byteOf c])) s =
            .next (((s.taken p).place { e with forecast := k.est.forecast }).reply p 30 .ok
              [byteOf e.reason.code, yesNo e.claimed, Config.replyCode .entryLeft])))) ∧
    (s.mode = .supervise →
      (s.entry? c = none → exec (.listRemove p (request 31 [byteOf c])) s = .next (s.answer p 31 .notFound [])) ∧
      ∀ e, s.entry? c = some e →
        (e.claimed = true → exec (.listRemove p (request 31 [byteOf c])) s = .next (s.answer p 31 .held [])) ∧
        (e.claimed = false →
          exec (.listRemove p (request 31 [byteOf c])) s =
            .next (({ s.taken p with collection := s.collection.filter fun (x : Entry) => x.container != c }).reply p 31 .ok [])))

/-- ROUND_OPEN refuses a capacity or selector out of range, an empty set, a set that names an undefined station, and an open round, in that order;
otherwise it opens the round, claims the first k LISTED entries of its stations in list order, and replies with the manifest (R124, R125). That RANGE
for an unlisted selector comes before BUSY, and that bits 10 to 12 of a manifest entry are 0, are the model's choices (assumptions 41 and 42). -/
def Obligations.RoundOpened : Prop :=
  ∀ (s : State) (p : Port) (k selector set : Nat), Ready s p → s.mode ≠ .configure → k < 256 → selector < 256 → set < 65536 →
    (k = 0 ∨ 64 < k ∨ 1 < selector ∨ (selector = 0 ∧ set = 0) →
      exec (.roundOpen p (request 32 ([byteOf k, byteOf selector] ++ bytesOf 2 set))) s = .next (s.answer p 32 .range [])) ∧
    (1 ≤ k → k ≤ 64 → selector = 0 → set ≠ 0 → (∃ u, set.testBit u = true ∧ s.station? u = none) →
      exec (.roundOpen p (request 32 ([byteOf k, byteOf selector] ++ bytesOf 2 set))) s = .next (s.answer p 32 .notFound [])) ∧
    (1 ≤ k → k ≤ 64 → (selector = 1 ∨ (selector = 0 ∧ set ≠ 0 ∧ ∀ u, set.testBit u = true → (s.station? u).isSome = true)) →
      (s.round.isSome = true →
        exec (.roundOpen p (request 32 ([byteOf k, byteOf selector] ++ bytesOf 2 set))) s = .next (s.answer p 32 .busy [])) ∧
      (s.round = none →
        ∀ (stations : StationSet) (es : List Entry),
          (∀ u, u < 16 → stations.getLsbD u = if selector = 0 then set.testBit u else (s.station? u).isSome) →
          es = (s.collection.filter fun e => !e.claimed && stations.getLsbD (e.container / 4)).take k →
          exec (.roundOpen p (request 32 ([byteOf k, byteOf selector] ++ bytesOf 2 set))) s =
            .next (({ s.taken p with
                round := some
                  { stations := stations, capacity := k, claims := es.length, nEmptied := 0, nPartial := 0, nAbandoned := 0, nFault := 0,
                    started := 0 }
                collection := s.collection.map fun (e : Entry) =>
                  if es.any fun x => x.container == e.container then { e with claimed := true } else e }).reply p 32 .ok
              (byteOf es.length :: es.flatMap fun (e : Entry) =>
                byteOf e.container :: bytesOf 2 (8192 * e.reason.code + s.levelOf e.container % 1024)))))

/-- ROUND_CLOSE answers NO_ROUND with no round open and BUSY while an operation is in LIFTED or RETURNED; otherwise it ends every operation ABANDONED,
with its latch at ENGAGE, its verification interest released and its EMPTYING_DONE, in slot order, releases every claim, closes the round and replies
with the summary (R127, R144, R146, R147, R149). -/
def Obligations.RoundClosed : Prop :=
  ∀ (s : State) (p : Port), Ready s p → s.mode ≠ .configure →
    (s.round = none → exec (.roundClose p (request 33 [])) s = .next (s.answer p 33 .noRound [])) ∧
    (s.round.isSome = true → (∃ op ∈ s.operations, op.phase = .lifted ∨ op.phase = .returned) →
      exec (.roundClose p (request 33 [])) s = .next (s.answer p 33 .busy [])) ∧
    (EmptyingOk s → ∀ r, s.round = some r → r.nAbandoned ≤ 65535 → (∀ op ∈ s.operations, op.phase = .pending ∨ op.phase = .unlatched) →
      ∃ t : State, exec (.roundClose p (request 33 [])) s =
          .next (t.reply p 33 .ok
            (bytesOf 2 r.claims ++ bytesOf 2 r.nEmptied ++ bytesOf 2 r.nPartial ++
              bytesOf 2 (min 65535 (r.nAbandoned + s.operations.length)) ++ bytesOf 2 r.nFault ++
              bytesOf 2 (s.collection.filter fun e => e.claimed && !r.started.getLsbD e.container).length)) ∧
        t.round = none ∧ t.operations = [] ∧
        t.collection = (s.collection.map fun e => { e with claimed := false }) ∧
        (∀ c k, s.container? c = some k → ∃ k' : Container, t.container? c = some k' ∧
          SameButSettle k' (if (s.opOf c).isSome then { k.untagged with outputs := { k.outputs with latch := .engage } } else k)) ∧
        (∀ c, s.container? c = none → t.container? c = none) ∧
        (∀ u, (t.station? u).map Station.still = (s.station? u).map Station.still) ∧
        t.report = s.operations.foldl (fun q op => s.reportEnded .abandoned op q) s.report ∧
        { t with
          stations := s.stations, collection := s.collection, round := s.round, ops := s.ops, report := s.report } = s.taken p)

/-- LIFT_START refuses in the order of its table (R131); a start that is taken makes the operation in the lowest free slot, ranks it last, adds the
container to the started set, claims its entry, withdraws its hatch, and leaves PENDING at once when the hatch is LOCKED, HL is accepted at 1 and the
crane position is free, with the latch at RELEASE and the lift wait running (R126, R129, R133, R134, R136). A start from a CREW card that passes its
tests does the same under its card id, makes no claim request, and shows GREEN (R94, R130). R131 only lists the slot number and the phase of the
reply: one byte each, the phase as 1 for PENDING or 2 for UNLATCHED, is the model's reading (assumption 14), and so is that a hatch LOCKED by the
withdrawal has the close action LOCK (assumption 19). -/
def Obligations.LiftStarted : Prop :=
  (∀ (s : State) (p : Port) (c : Nat) (k : Container), Ready s p → s.mode ≠ .configure → c < 64 → s.container? c = some k →
    (s.round = none → exec (.liftStart p (request 34 [byteOf c])) s = .next (s.answer p 34 .noRound [])) ∧
    ∀ r, s.round = some r →
      (k.hatch.force = .release → exec (.liftStart p (request 34 [byteOf c])) s = .next (s.answer p 34 .forced [])) ∧
      (k.hatch.force ≠ .release → ((s.opOf c).isSome = true ∨ s.craneTaken c = true) →
        exec (.liftStart p (request 34 [byteOf c])) s = .next (s.answer p 34 .busy [])) ∧
      (k.hatch.force ≠ .release → s.opOf c = none → s.craneTaken c = false →
        ((∀ o ∈ s.ops, o.isSome = true) → exec (.liftStart p (request 34 [byteOf c])) s = .next (s.answer p 34 .noSlot [])) ∧
        ∀ i, s.ops[i]? = some none → (∀ j, j < i → s.ops[j]? ≠ some none) →
          (s.onlineAt c = false → exec (.liftStart p (request 34 [byteOf c])) s = .next (s.answer p 34 .offline [])) ∧
          (s.onlineAt c = true →
            ∀ goes, goes = decide (k.hatch.state ≠ .opened ∧ k.contacts.hl.accepted = some true) →
            ∃ (t : State) (k' : Container) (e : Entry),
              exec (.liftStart p (request 34 [byteOf c])) s = .next (t.reply p 34 .ok [byteOf i, if goes then 2 else 1]) ∧
              t.ops = s.ops.set i (some
                { container := c, phase := if goes then .unlatched else .pending, start := .host, order := s.operations.length,
                  timer := if goes then some s.tuning.liftWait else none, attempts := 0, seedTaken := false, verified := none,
                  depositsAtSeed := none }) ∧
              t.round = some
                { r with
                  started := r.started ||| (1 <<< c)
                  claims := if s.entryClaimed c then r.claims else min 65535 (r.claims + 1) } ∧
              t.entry? c = some e ∧ e.claimed = true ∧
              (s.entry? c = none → e.reason = .host) ∧ (∀ x, s.entry? c = some x → e = { x with claimed := true }) ∧
              (∀ d, d ≠ c → t.entry? d = s.entry? d) ∧
              t.container? c = some k' ∧
              k'.hatch =
                (if k.hatch.state = .released then
                  { state := .locked, force := k.hatch.force, admission := none, window := none, deposit := none, closeAction := .lock }
                else k.hatch) ∧
              k'.outputs =
                { k.outputs with
                  lock := if k.hatch.state = .released then .engage else k.outputs.lock
                  latch := if goes then .release else k.outputs.latch } ∧
              SameButSettle { k' with hatch := k.hatch, outputs := k.outputs } k ∧
              t.directory = ((s.taken p).returnAdmission (if k.hatch.state = .released then k.hatch.admission else none)).directory ∧
              OnlyContainer c s t ∧
              { t with
                stations := s.stations, directory := s.directory, collection := s.collection, round := s.round, ops := s.ops,
                actions := s.actions, report := s.report } = s.taken p))) ∧
  ∀ (s : State) (c i : Nat) (id : CardId) (k : Container) (r : Round), s.container? c = some k → s.round = some r →
    (∃ e, s.entry? c = some e ∧ e.claimed = true) → k.hatch.force ≠ .release → s.opOf c = none → s.craneTaken c = false →
    s.ops[i]? = some none → (∀ j, j < i → s.ops[j]? ≠ some none) →
    ∀ goes, goes = decide (k.hatch.state ≠ .opened ∧ k.contacts.hl.accepted = some true) →
    ∃ (t : State) (k' : Container), (s.start c (.card id)).showLamp c .green = t ∧
      t.ops = s.ops.set i (some
        { container := c, phase := if goes then .unlatched else .pending, start := .card id, order := s.operations.length,
          timer := if goes then some s.tuning.liftWait else none, attempts := 0, seedTaken := false, verified := none,
          depositsAtSeed := none }) ∧
      t.round = some { r with started := r.started ||| (1 <<< c) } ∧
      t.container? c = some k' ∧
      k'.hatch =
        (if k.hatch.state = .released then
          { state := .locked, force := k.hatch.force, admission := none, window := none, deposit := none, closeAction := .lock }
        else k.hatch) ∧
      k'.outputs =
        { lock := if k.hatch.state = .released then .engage else k.outputs.lock
          latch := if goes then .release else k.outputs.latch
          lamp := .green } ∧
      k'.lampHold = some 3 ∧
      SameButSettle { k' with hatch := k.hatch, outputs := k.outputs, lampHold := k.lampHold } k ∧
      t.directory = (s.returnAdmission (if k.hatch.state = .released then k.hatch.admission else none)).directory ∧
      OnlyContainer c s t ∧
      { t with
        stations := s.stations, directory := s.directory, round := s.round, ops := s.ops, actions := s.actions,
        report := s.report } = s

/-- The lift wait expires in UNLATCHED: the operation ends ABANDONED, its latch at ENGAGE, the entry kept, EMPTYING_DONE posted. The lifted timer
expires in LIFTED: it ends FAULT, the container BLOCKED with cause LIFT unless it was BLOCKED, the entry LISTED for INSPECTION. A timer of another
phase changes nothing (R119, R137, R138, R144 to R146). The end of an operation, with any outcome and in any phase, touches its slot, container, round
count and entry, posts LIST_ENTRY if the reason changed and then EMPTYING_DONE, releases the verification, lowers the start orders above it by one,
and gives the crane position it held to the first started of the station's operations that wait with the hatch LOCKED and HL accepted at 1; every
other container stays as it was (R129, R134, R144 to R147). That an expiry is taken whatever a running timer shows is the model's choice (assumption
3). -/
def Obligations.OperationTimersExpired : Prop :=
  (∀ (s : State) (c : Nat) (k : Container) (op : Operation), s.container? c = some k → k.hatch.state = .locked → s.opOf c = some op →
    (op.phase = .unlatched → op.timer.isSome = true →
      ∃ (t : State) (k' : Container), exec (.liftWaitExpiry c) s = .next t ∧
        t.opOf c = none ∧ t.container? c = some k' ∧ k'.outputs = { k.outputs with latch := .engage } ∧ k'.hatch = k.hatch ∧
        k'.blocked = k.blocked ∧
        t.round = (s.round.map fun r => { r with nAbandoned := min 65535 (r.nAbandoned + 1) }) ∧
        t.report = s.report.post s.tuning.attention
          (s.event .emptyingDone (some (c / 4)) (some c)
            (.emptyingDone .abandoned .unlatched op.start op.attempts op.verified (op.depositsAtSeed.getD k.est.deposits))) .none 0 ∧
        { t with stations := s.stations, ops := s.ops, round := s.round, report := s.report } = s ∧
        (EmptyingOk s → OperationEnded .abandoned op c k s t)) ∧
    (op.phase ≠ .unlatched ∨ op.timer = none → exec (.liftWaitExpiry c) s = .next s) ∧
    (op.phase = .lifted → op.timer.isSome = true →
      ∃ (t : State) (k' : Container), exec (.liftedTimerExpiry c) s = .next t ∧
        t.opOf c = none ∧ t.container? c = some k' ∧ k'.outputs = { k.outputs with latch := .engage } ∧ k'.hatch = k.hatch ∧
        k'.blocked = k.blocked.or (some .lift) ∧
        t.round = (s.round.map fun r => { r with nFault := min 65535 (r.nFault + 1) }) ∧
        (∀ e, s.entry? c = some e → t.entry? c = some { e with reason := .inspection, claimed := false }) ∧
        (∀ d, d ≠ c → t.entry? d = s.entry? d) ∧
        t.report = s.reportEnded .fault op s.report ∧
        { t with stations := s.stations, ops := s.ops, round := s.round, collection := s.collection, report := s.report } = s ∧
        (EmptyingOk s → OperationEnded .fault op c k s t)) ∧
    (op.phase ≠ .lifted ∨ op.timer = none → exec (.liftedTimerExpiry c) s = .next s)) ∧
  ∀ (s : State) (c : Nat) (k : Container) (op : Operation) (o : LiftOutcome), s.container? c = some k → s.opOf c = some op → EmptyingOk s →
    (o = .fault → k.hatch.state = .locked) → OperationEnded o op c k s (s.endOperation c o)

/-- The attempt timer expires in RETURNED: attempts made advances by one, the timer restarts with 20 s or stops after attempt 3, and the measurement
is requested with the verification tag, its seed marker set until a seed has been taken (R33, R141). A request that finds a measurement in flight or
marked is folded into it, which then carries the tag; at an OFFLINE station it is answered failed at once. That the expiry is taken whatever the timer
shows is the model's choice (assumption 3), and that the tag of an earlier verification request is replaced its reading (assumption 27). -/
def Obligations.AttemptMade : Prop :=
  ∀ (s : State) (c : Nat) (k : Container) (op : Operation) (t : State), EmptyingOk s → s.container? c = some k → s.opOf c = some op →
    op.phase = .returned →
    t = s.updOp c (fun op => { op with attempts := op.attempts + 1, timer := if op.attempts + 1 < 3 then some 20 else none }) →
    (op.timer.isSome = true → k.latched.isSome = true →
      (k.est.flight = none → k.marker = none → s.onlineAt c = true →
        exec (.attemptTimerExpiry c) s =
          .next (t.updContainer c fun k => { k with marker := some { tag := some { seedMarker := !op.seedTaken } } })) ∧
      (k.est.flight = none → k.marker = none → s.onlineAt c = false →
        exec (.attemptTimerExpiry c) s = .next (t.takeAnswer c .failed) ∧
        (op.attempts + 1 ≠ 3 → exec (.attemptTimerExpiry c) s = .next t)) ∧
      (k.est.flight = none → k.marker.isSome = true →
        exec (.attemptTimerExpiry c) s =
          .next (t.updContainer c fun k => { k with marker := some { tag := some { seedMarker := !op.seedTaken } } })) ∧
      ∀ fl, k.est.flight = some fl →
        exec (.attemptTimerExpiry c) s =
          .next (t.updContainer c fun k =>
            { k with est := { k.est with flight := some { tag := some { seedMarker := !op.seedTaken }, timeout := fl.timeout } } })) ∧
    (op.timer = none → exec (.attemptTimerExpiry c) s = .next s)

/-- What contacts and answers do to an operation: an acceptance of HL at 1 in PENDING brings UNLATCHED, the latch at RELEASE and the lift wait, when
the hatch is LOCKED and the crane position free (R134, R136); SE at 0 in UNLATCHED brings LIFTED with its 900 s timer (R137, R138); SE and PD at 1 in
LIFTED bring RETURNED, the latch at ENGAGE and attempt 1 made (R140, R141); an accepted answer at or below T_empty ends the operation EMPTIED, the
latch and the entry with it, and attempt 3 answered otherwise, by a higher level or by failed, ends it PARTIAL (R142, R144), each with all that the
end of an operation brings: slot, start orders, the next operation of the station, entry, round count and postings (R119, R129, R134, R146). After the
phases the seating check of the container: taken at the first initial acceptance of SE, disarmed, and at SE 0 the container BLOCKED with cause
LIFT_INTERRUPTED and listed for INSPECTION (R119, R151). That one handover acts on the phase it finds is the model's reading (assumption 9), and so is
the close action of a hatch LOCKED by the block (assumption 19). -/
def Obligations.OperationAdvances : Prop :=
  (∀ (s : State) (c : Nat) (k : Container) (op : Operation), s.container? c = some k → s.opOf c = some op →
    (∀ acc : PerContact Acceptance,
      (op.phase = .pending →
        ∀ goes, goes = decide (acc.hl ≠ .none ∧ k.hatch.state = .locked ∧ k.contacts.hl.accepted = some true ∧ s.craneTaken c = false) →
        (goes = true →
          ∃ k' : Container,
            (s.opContacts c acc).ops = s.ops.map (Option.map fun x =>
              if x.container = c then { x with phase := .unlatched, timer := some s.tuning.liftWait } else x) ∧
            (s.opContacts c acc).container? c = some k' ∧ SameButSettle k' { k with outputs := { k.outputs with latch := .release } } ∧
            OnlyContainer c s (s.opContacts c acc) ∧ { s.opContacts c acc with stations := s.stations, ops := s.ops } = s) ∧
        (goes = false → s.opContacts c acc = s)) ∧
      (op.phase = .returned → s.opContacts c acc = s) ∧
      (op.phase = .unlatched →
        (acc.se = .changed → k.contacts.se.accepted = some false →
          (s.opContacts c acc).opOf c = some { op with phase := .lifted, timer := some 900 } ∧ OnlyContainer c s (s.opContacts c acc)) ∧
        (acc.se ≠ .changed → s.opContacts c acc = s)) ∧
      (op.phase = .lifted →
        (acc.se.some? = true ∨ acc.pd.some? = true → k.contacts.se.accepted = some true → k.contacts.pd.accepted = some true →
          s.mode ≠ .configure → k.latched.isSome = true → k.est.flight = none → k.marker = none → s.onlineAt c = true →
          ∃ k' : Container,
            (s.opContacts c acc).opOf c = some { op with phase := .returned, attempts := op.attempts + 1,
                                                         timer := if op.attempts + 1 < 3 then some 20 else none } ∧
            (s.opContacts c acc).container? c = some k' ∧ k'.outputs = { k.outputs with latch := .engage } ∧
            k'.marker = some { tag := some { seedMarker := !op.seedTaken } }) ∧
        (k.contacts.se.accepted ≠ some true ∨ k.contacts.pd.accepted ≠ some true → s.opContacts c acc = s))) ∧
    (∀ (x : Setup) (l n : Nat) (seed : Bool), op.phase = .returned → k.hatch.state = .locked → k.latched = some x →
      let t := s.takeAnswer c (.accepted l seed n)
      let answered : Operation :=
        { op with verified := some l, seedTaken := op.seedTaken || seed, depositsAtSeed := if seed then some n else op.depositsAtSeed }
      (l ≤ x.tEmpty →
        t.opOf c = none ∧ t.entry? c = none ∧
        t.round = (s.round.map fun r => { r with nEmptied := min 65535 (r.nEmptied + 1) }) ∧
        (t.container? c).map (fun k' => (k'.outputs, k'.hatch, k'.blocked)) =
          some ({ k.outputs with latch := .engage }, k.hatch, k.blocked) ∧
        (EmptyingOk s → OperationEnded .emptied answered c k s t)) ∧
      (x.tEmpty < l → op.attempts < 3 →
        t.opOf c = some answered ∧ OnlyContainer c s t ∧
        t = { s with ops := s.ops.map (Option.map fun y => if y.container = c then { y with
                verified := some l, seedTaken := y.seedTaken || seed,
                depositsAtSeed := if seed then some n else y.depositsAtSeed } else y) }) ∧
      (x.tEmpty < l → op.attempts = 3 →
        t.opOf c = none ∧ t.round = (s.round.map fun r => { r with nPartial := min 65535 (r.nPartial + 1) }) ∧
        (∀ e, s.entry? c = some e → t.entry? c = some { e with reason := .partialLift, claimed := false }) ∧
        (EmptyingOk s → OperationEnded .partialLift answered c k s t))) ∧
    (op.phase = .returned → op.attempts < 3 → s.takeAnswer c .failed = s) ∧
    (op.phase = .returned → op.attempts = 3 → k.hatch.state = .locked →
      let t := s.takeAnswer c .failed
      t.opOf c = none ∧ t.round = (s.round.map fun r => { r with nPartial := min 65535 (r.nPartial + 1) }) ∧
      (∀ e, s.entry? c = some e → t.entry? c = some { e with reason := .partialLift, claimed := false }) ∧
      (t.container? c).map (fun k' => (k'.outputs, k'.hatch, k'.blocked)) =
        some ({ k.outputs with latch := .engage }, k.hatch, k.blocked) ∧
      (EmptyingOk s → OperationEnded .partialLift op c k s t)) ∧
    (op.phase ≠ .returned → ∀ a, s.takeAnswer c a = s)) ∧
  ∀ (s : State) (c : Nat) (k : Container) (acc : PerContact Acceptance), s.container? c = some k →
    s.emptyingContacts c acc = (s.opContacts c acc).seatingTest c acc ∧
    (s.opOf c = none → s.opContacts c acc = s) ∧
    (k.seatingCheck = false ∨ acc.se ≠ .initial → s.seatingTest c acc = s) ∧
    (k.seatingCheck = true → acc.se = .initial → k.contacts.se.accepted = some true →
      s.seatingTest c acc = s.updContainer c fun k => { k with seatingCheck := false }) ∧
    (k.seatingCheck = true → acc.se = .initial → k.contacts.se.accepted = some false →
      (k.hatch.state = .released → s.phaseOf c ≠ some .pending) →
      ∃ (t : State) (k' : Container), s.seatingTest c acc = t ∧ t.container? c = some k' ∧
        SameButSettle k'
          { k with
            seatingCheck := false
            blocked := k.blocked.or (some .liftInterrupted)
            hatch :=
              (match k.hatch.state, k.hatch.force with
                | .locked, _ => k.hatch
                | .released, _ =>
                  { state := .locked, force := if k.hatch.force = .release then .none else k.hatch.force, admission := none, window := none,
                    deposit := none, closeAction := .lock }
                | .opened, .release => { k.hatch with force := .none, closeAction := .lock }
                | .opened, _ => k.hatch)
            outputs := if k.hatch.state = .released then { k.outputs with lock := .engage } else k.outputs } ∧
        t.entry? c = some
          (match s.entry? c with
            | none => { s.freshEntry c k.est.forecast with reason := .inspection }
            | some e => { e with reason := if 4 < e.reason.code then .inspection else e.reason, forecast := k.est.forecast }) ∧
        (∀ d, d ≠ c → t.entry? d = s.entry? d) ∧
        t.directory = (s.returnAdmission (if k.hatch.state = .released then k.hatch.admission else none)).directory ∧
        (s.actions = [] →
          t.report =
            (match s.entry? c with
              | none => s.reportAt c .listEntry (.listEntry .inspection none false k.est.forecast k.est.level) s.report
              | some e =>
                if 4 < e.reason.code then
                  s.reportAt c .listEntry (.listEntry .inspection (some e.reason) e.claimed k.est.forecast k.est.level) s.report
                else s.report)) ∧
        OnlyContainer c s t ∧
        { t with
          stations := s.stations, directory := s.directory, collection := s.collection, actions := s.actions, report := s.report } = s)

/-! ### Measurement (chapter 2) -/

/-- MEASURE_NOW is refused BUSY in UNLATCHED, LIFTED and RETURNED and OFFLINE at an OFFLINE station; otherwise the request is passed to the scanner,
whose marker is set, or folded into the one marked or in flight, which stays as it is (R13, R31, R32). The codes of the reply are free values
(assumption 1). That BUSY is tested before OFFLINE is the model's choice (assumption 42). -/
def Obligations.MeasureNowTaken : Prop :=
  ∀ (s : State) (p : Port) (c : Nat) (k : Container), Ready s p → s.mode ≠ .configure → c < 64 → s.container? c = some k →
    (s.phaseOf c = some .unlatched ∨ s.phaseOf c = some .lifted ∨ s.phaseOf c = some .returned →
      exec (.measureNow p (request 35 [byteOf c])) s = .next (s.answer p 35 .busy [])) ∧
    ((s.phaseOf c = none ∨ s.phaseOf c = some .pending) →
      (s.onlineAt c = false → exec (.measureNow p (request 35 [byteOf c])) s = .next (s.answer p 35 .offline [])) ∧
      (s.onlineAt c = true → k.latched.isSome = true →
        (k.est.flight.isSome = true ∨ k.marker.isSome = true →
          exec (.measureNow p (request 35 [byteOf c])) s = .next (s.answer p 35 .ok [Config.replyCode .measureFolded])) ∧
        (k.est.flight = none → k.marker = none →
          exec (.measureNow p (request 35 [byteOf c])) s =
            .next (((s.taken p).updContainer c fun k => { k with marker := some { tag := none } }).reply p 35 .ok
              [Config.replyCode .measurePassed]))))

/-- The expiries that only request or show: the lamp hold puts the lamp OFF in the image; the periodic timer restarts with the interval and the
post-deposit timer stops, and each requests a measurement, which sets the marker of a container that may be measured and has none marked or in flight
(R12, R21, R29, R30, R31). That an expiry is taken whatever a running timer shows is the model's choice (assumption 3). -/
def Obligations.LampAndScheduleExpiries : Prop :=
  ∀ (s : State) (c : Nat) (k : Container), s.container? c = some k →
    (k.lampHold.isSome = true →
      ∃ t : State, exec (.lampHoldExpiry c) s = .next t ∧
        t.container? c = some { k with lampHold := none, outputs := { k.outputs with lamp := .off } } ∧
        (∀ st, s.station? (c / 4) = some st → ∃ st' : Station, t.station? (c / 4) = some st' ∧ st'.status = st.status ∧
          st'.revision = if k.outputs.lamp = .off then st.revision else st.revision + 1) ∧
        OnlyContainer c s t ∧ { t with stations := s.stations } = s) ∧
    (k.lampHold = none → exec (.lampHoldExpiry c) s = .next s) ∧
    ∀ mayMeasure, mayMeasure = decide (s.mode ≠ .configure ∧ k.latched.isSome = true ∧ (s.phaseOf c = none ∨ s.phaseOf c = some .pending) ∧
        k.est.flight = none ∧ k.marker = none ∧ s.onlineAt c = true) →
      (k.est.periodic.isSome = true →
        ∃ t : State, exec (.periodicTimerExpiry c) s = .next t ∧
          t.container? c = some
            { k with
              est := { k.est with periodic := some s.tuning.interval }
              marker := if mayMeasure then some { tag := none } else k.marker } ∧
          OnlyContainer c s t ∧ { t with stations := s.stations } = s) ∧
      (k.est.periodic = none → exec (.periodicTimerExpiry c) s = .next s) ∧
      (k.est.postDeposit.isSome = true →
        ∃ t : State, exec (.postDepositTimerExpiry c) s = .next t ∧
          t.container? c = some
            { k with
              est := { k.est with postDeposit := none }
              marker := if mayMeasure then some { tag := none } else k.marker } ∧
          OnlyContainer c s t ∧ { t with stations := s.stations } = s) ∧
      (k.est.postDeposit = none → exec (.postDepositTimerExpiry c) s = .next s)

/-- The echo timeout ends the measurement; outside CONFIGURE it is a rejected sample, and the one that brings the count to 4 makes the sensor FAULTY,
sets the flag and raises SENSOR_FAULT, which with no action bound is posted (R34, R36). A measurement tagged for verification does the same and is
then answered failed (R33). NO_ECHO, a quality below 3 and a distance above E + 200 are rejected samples alike, an echo with no measurement in flight
is discarded, and one in CONFIGURE or, untagged, in UNLATCHED, LIFTED or RETURNED only ends its measurement (R35). That the timeout is taken whatever
it shows is the model's choice (assumption 3). -/
def Obligations.EchoLost : Prop :=
  (∀ (s : State) (c n : Nat) (k : Container) (fl : Flight), s.container? c = some k → k.est.flight = some fl → fl.tag = none →
    n = min 255 (k.est.rejected + 1) →
    (s.mode = .configure → exec (.echoTimeout c) s = .next (s.updEst c fun e => { e with flight := none })) ∧
    (s.mode ≠ .configure → n < 4 ∨ k.est.sensor = .faulty →
      ∃ t : State, exec (.echoTimeout c) s = .next t ∧
        t.container? c = some { k with est := { k.est with flight := none, rejected := n } } ∧
        OnlyContainer c s t ∧ { t with stations := s.stations } = s) ∧
    (s.mode ≠ .configure → 4 ≤ n → k.est.sensor ≠ .faulty →
      exec (.echoTimeout c) s =
        .next ((s.updContainer c fun k =>
          { k with
            est := { k.est with flight := none, rejected := n, sensor := .faulty }
            flags := { k.flags with sensorFault := true } }).raise .sensorFault (c / 4) (some c) [c] (.sensorFault n))) ∧
    (s.mode ≠ .configure → 4 ≤ n → k.est.sensor ≠ .faulty → (s.bindingOf .sensorFault).action = .none →
      ∃ t : State, exec (.echoTimeout c) s = .next t ∧
        t.container? c = some
          { k with
            est := { k.est with flight := none, rejected := n, sensor := .faulty }
            flags := { k.flags with sensorFault := true } } ∧
        t.report = s.report.post s.tuning.attention (s.event .sensorFault (some (c / 4)) (some c) (.sensorFault n)) .none 0 ∧
        OnlyContainer c s t ∧ { t with stations := s.stations, report := s.report } = s)) ∧
  (∀ (s : State) (c : Nat) (k : Container) (fl : Flight), s.container? c = some k → k.est.flight = some fl →
    (fl.tag.isSome = true → s.mode ≠ .configure →
      ∃ u : State,
        exec (.echoTimeout c) (s.updEst c fun e => { e with flight := some { tag := none, timeout := fl.timeout } }) = .next u ∧
        exec (.echoTimeout c) s = .next (u.takeAnswer c .failed)) ∧
    (s.mode = .configure → exec (.echoTimeout c) s = .next (s.updEst c fun e => { e with flight := none })) ∧
    ∀ (x : Setup) (echo : Echo), k.latched = some x →
      (s.mode ≠ .configure → s.phaseOf c = none ∨ s.phaseOf c = some .pending ∨ fl.tag.isSome = true →
        echo = .noEcho ∨ (∃ d q, echo = .heard d q ∧ (q < 3 ∨ x.emptyDistance + 200 < d)) →
        exec (.echoTimeout c) s = .next (s.handEcho c (some echo))) ∧
      (s.mode = .configure ∨ (fl.tag = none ∧ ∃ ph, s.phaseOf c = some ph ∧ ph ≠ .pending) →
        s.handEcho c (some echo) = s.updEst c fun e => { e with flight := none })) ∧
  ∀ (s : State) (c : Nat) (k : Container) (echo : Echo), s.container? c = some k → k.est.flight = none →
    exec (.echoTimeout c) s = .next s ∧ s.handEcho c (some echo) = s

/-- An accepted sample (R33, R35, R37, R38, R40 to R44, R48, R53, R54): the rejected count is 0 and the sensor GOOD, with SENSOR_RECOVERED out of
FAULTY; a distance below F sets the OVERFILL flag, with OVERFILL when it was clear; S is seeded or moved, P is 0, C and L follow; a band UNKNOWN takes
the level's band, a verification seed its candidate at once, and any other sample waits for as many agreeing ones as the setup asks. A changed band
sets the flags of its reported crossings, posts LEVEL_PASSAGE for each in crossing order, gives H anew, and then hands the list its requests, which
downgrade, remove, insert or raise the entry with their LIST_ENTRY (R57 to R59, R61, R115 to R117). A verification seed sets the deposits to 0 and C_h
to C; the sample is recorded, and a verification measurement is answered last. No other container's estimate or entry changes. -/
def Obligations.SampleTaken : Prop :=
  ∀ (s : State) (c d q : Nat) (k : Container) (x : Setup) (fl : Flight), s.container? c = some k → k.latched = some x →
    k.est.flight = some fl → s.mode ≠ .configure → (s.phaseOf c = none ∨ s.phaseOf c = some .pending ∨ fl.tag.isSome = true) →
    3 ≤ q → d ≤ x.emptyDistance + 200 → x.inRange = true →
    ∀ seed verifySeed, verifySeed = decide (fl.tag = some { seedMarker := true }) → seed = (k.est.smoothed.isNone || verifySeed) →
    ∃ (u : State) (k' : Container), u.container? c = some k' ∧
      s.handEcho c (some (.heard d q)) = (if fl.tag.isSome then u.takeAnswer c (.accepted k'.est.level seed k.est.deposits) else u) ∧
      k'.est.flight = none ∧ k'.est.rejected = 0 ∧ k'.est.sensor = .good ∧ k'.est.credit = 0 ∧
      k'.est.smoothed = some (match k.est.smoothed with
        | none => 16 * x.levelAt d
        | some v => if seed then 16 * x.levelAt d else smoothTo x.alpha (x.levelAt d) v) ∧
      k'.est.credited = min 16000 (k'.est.smoothed.getD 0) ∧ k'.est.level = (k'.est.credited + 8) / 16 ∧
      k'.est.rate = k.est.rate ∧ k'.est.baseline = (if verifySeed then some k'.est.credited else k.est.baseline) ∧
      k'.est.deposits = (if verifySeed then 0 else k.est.deposits) ∧
      k'.est.periodic = k.est.periodic ∧ k'.est.postDeposit = k.est.postDeposit ∧
      k'.est.last = some { distance := d, quality := q, level := x.levelAt d, day := s.clock.day, second := s.clock.second } ∧
      (∀ b n, seed = false → k.est.band = some b →
        n = (if k.est.candidate = some (x.candidate b k'.est.level) then k.est.count + 1 else 1) →
        (x.candidate b k'.est.level = b → k'.est.band = some b ∧ k'.est.candidate = none ∧ k'.est.count = 0) ∧
        (x.candidate b k'.est.level ≠ b → n < x.confirmations →
          k'.est.band = some b ∧ k'.est.candidate = some (x.candidate b k'.est.level) ∧ k'.est.count = n) ∧
        (x.candidate b k'.est.level ≠ b → x.confirmations ≤ n →
          k'.est.band = some (x.candidate b k'.est.level) ∧ k'.est.candidate = none ∧ k'.est.count = 0)) ∧
      (seed = true →
        k'.est.candidate = none ∧ k'.est.count = 0 ∧ k'.est.forecast = hoursToFull k'.est.credited k'.est.rate x.tFull ∧
        (∀ b, k.est.band = some b → k'.est.band = some (x.candidate b k'.est.level)) ∧
        (k.est.band = none → ∀ m, Highest (fun i => x.threshold i ≤ k'.est.level) m → k'.est.band.map Band.number = some m)) ∧
      k'.flags =
        { k.flags.passed (match k'.est.band with
            | some new => x.reported k.est.band new
            | none => []) with
          overfill := k.flags.overfill || decide (d < x.fullDistance) } ∧
      k'.est.forecast =
        (if seed = true ∨ k'.est.band ≠ k.est.band then hoursToFull k'.est.credited k.est.rate x.tFull else k.est.forecast) ∧
      (∀ e, e ≠ c → (u.container? e).map Container.est = (s.container? e).map Container.est) ∧
      ((s.bindingOf .overfill).action = .none →
        OnlyContainer c s u ∧ { u with stations := s.stations, collection := s.collection, report := s.report } = s ∧
        (∀ new, k'.est.band = some new →
          u.entry? c = (bandListing k.est.band new (s.freshEntry c k'.est.forecast) (s.entry? c)).1 ∧
          (∀ e, e ≠ c → u.entry? e = s.entry? e) ∧
          u.report =
            s.reportBand c x k.est.band new k'.est.level k'.est.forecast
              (let recovered :=
                if k.est.sensor = .faulty then s.reportAt c .sensorRecovered (.sensorRecovered k'.est.level) s.report else s.report
              if d < x.fullDistance ∧ k.flags.overfill = false then s.reportAt c .overfill (.overfill d) recovered else recovered)) ∧
        (k'.est.band = k.est.band →
          u.collection = s.collection ∧
          u.report =
            (let recovered :=
              if k.est.sensor = .faulty then
                s.report.post s.tuning.attention
                  (s.event .sensorRecovered (some (c / 4)) (some c) (.sensorRecovered k'.est.level)) .none 0
              else s.report
            if d < x.fullDistance ∧ k.flags.overfill = false then
              recovered.post s.tuning.attention (s.event .overfill (some (c / 4)) (some c) (.overfill d)) .none 0
            else recovered)))

/-! ### The integrity monitor, flags and events (chapters 8 and 9) -/

/-- Settle windows (R159, R160): one starts when an expected value changes to 0 or 1 at an unmasked contact that does not agree; it ends in INCLUDED
at agreement, at once if that holds already, or when the expected value becomes excluded; a FAULTED contact is INCLUDED at agreement; a DEFERRED one
takes its window at its first acceptance; at a SUSPENDED station nothing of this (R161). One that expires: FAULTED, flag set, block request ACTUATOR,
ACTUATOR_FAULT raised, and an LL fault in RETURNED ends the operation FAULT; with no action bound and the hatch LOCKED, spelled out; with no window
running nothing. A part waits for the close, starts its window there or is confirmed at HL 1 or masked, and ends not engaged when the hatch leaves
LOCKED, the station goes OFFLINE or the container ceases to exist; the action whose last part ends posts its event (R168, R169). A confirmation window
that expires ends its part not engaged, and the held event is posted PARTIAL, naming the slots not engaged, when it was the last (R168, R169, R174).
That an expiry is taken whatever the window shows, the values in the event's body, a DEFERRED, masked or excluded contact's corners the moments at
which a part looks, and the order of held events and containers are the model's (assumptions 3, 10, 11, 12, 13 and 33). -/
def Obligations.WindowsExpired : Prop :=
  (∀ (n : Nat) (masked : Bool) (accepted old new : Option Bool) (x : Settle),
    (old = new → x.onExpected n masked accepted old new = x) ∧
    (old ≠ new → new = none → x.onExpected n masked accepted old new = if x.running = true then .included else x) ∧
    (∀ v, old ≠ new → new = some v →
      x.onExpected n masked accepted old new =
        if masked = true then x else if accepted = some v then .included else .settling n)) ∧
  (∀ (n : Nat) (masked : Bool) (expected : Option Bool) (x : Settle),
    x.onAccepted n masked none expected = x ∧
    ∀ a,
      Settle.included.onAccepted n masked (some a) expected = .included ∧
      Settle.deferred.onAccepted n masked (some a) expected =
        (if masked = false ∧ expected = some (!a) then .settling n else .included) ∧
      (x = .faulted ∨ x.running = true → x.onAccepted n masked (some a) expected = if expected = some a then .included else x)) ∧
  (∀ (s : State) (c : Nat) (old : PerContact (Option Bool)) (k : Container) (st : Station), s.container? c = some k →
    s.station? (c / 4) = some st →
    (st.status = .suspended → s.patternChange c old = s ∧ s.settleContacts c = s) ∧
    (st.status ≠ .suspended →
      ∃ t u : State, s.patternChange c old = t ∧
        t.container? c = some
          { k with
            settleHL := k.settleHL.onExpected s.tuning.settleTime k.mask.hl k.contacts.hl.accepted old.hl (s.pattern c).hl
            settleLL := k.settleLL.onExpected s.tuning.settleTime k.mask.ll k.contacts.ll.accepted old.ll (s.pattern c).ll } ∧
        (t.station? (c / 4)).map Station.status = some (if t.stationMatched (c / 4) = true then .armed else .unarmed) ∧
        OnlyContainer c s t ∧ { t with stations := s.stations } = s ∧
        s.settleContacts c = u ∧
        u.container? c = some
          { k with
            settleHL := k.settleHL.onAccepted s.tuning.settleTime k.mask.hl k.contacts.hl.accepted (s.pattern c).hl
            settleLL := k.settleLL.onAccepted s.tuning.settleTime k.mask.ll k.contacts.ll.accepted (s.pattern c).ll } ∧
        OnlyContainer c s u ∧ { u with stations := s.stations } = s)) ∧
  (∀ (s : State) (c : Nat) (a : Actuator) (k : Container), s.container? c = some k →
    ((k.settleOf a).running = false → exec (.settleWindowExpiry c a) s = .next s) ∧
    ((k.settleOf a).running = true →
      ∃ u : State,
        u = (((s.updContainer c fun k =>
            { k with
              settleHL := if a = .lock then .faulted else k.settleHL
              settleLL := if a = .latch then .faulted else k.settleLL
              flags := { k.flags with actuatorFault := true } }).blockRequest c .actuator).raise .actuatorFault (c / 4) (some c) [c]
          (.actuatorFault a (((s.pattern c).ofActuator a).getD true) (k.contacts.ofActuator a).accepted)) ∧
        exec (.settleWindowExpiry c a) s = .next (if a = .latch ∧ u.phaseOf c = some .returned then u.endOperation c .fault else u)) ∧
    ((k.settleOf a).running = true → k.hatch.state = .locked → (s.bindingOf .actuatorFault).action = .none →
      (a = .latch → s.phaseOf c ≠ some .returned) →
      ∃ t : State, exec (.settleWindowExpiry c a) s = .next t ∧
        t.container? c = some
          { k with
            settleHL := if a = .lock then .faulted else k.settleHL
            settleLL := if a = .latch then .faulted else k.settleLL
            flags := { k.flags with actuatorFault := true }
            blocked := k.blocked.or (some .actuator) } ∧
        t.report = s.report.post s.tuning.attention
          (s.event .actuatorFault (some (c / 4)) (some c)
            (.actuatorFault a (((s.pattern c).ofActuator a).getD true) (k.contacts.ofActuator a).accepted)) .none 0 ∧
        OnlyContainer c s t ∧ { t with stations := s.stations, report := s.report } = s)) ∧
  (∀ (n r : Nat) (k : Container),
    PartState.follow n k .waiting =
      (if k.hatch.state = .locked then if k.contacts.hl.accepted = some true ∨ k.mask.hl = true then .confirmed else .window n
      else .waiting) ∧
    PartState.follow n k (.window r) =
      (if k.hatch.state ≠ .locked then .notEngaged
      else if k.contacts.hl.accepted = some true ∨ k.mask.hl = true then .confirmed else .window r) ∧
    PartState.follow n k .confirmed = .confirmed ∧ PartState.follow n k .notEngaged = .notEngaged ∧
    PartState.waiting.giveUp = .notEngaged ∧ (PartState.window r).giveUp = .notEngaged ∧ PartState.confirmed.giveUp = .confirmed ∧
    PartState.notEngaged.giveUp = .notEngaged) ∧
  (∀ (s : State) (c : Nat) (f : PartState → PartState) (ended : PartState → Bool) (actions : List HeldAction),
    ended = (fun x => decide (x = .confirmed ∨ x = .notEngaged)) →
    actions = (s.actions.map fun a =>
      { a with parts := a.parts.map fun q => if q.container = c then { q with state := f q.state } else q }) →
    s.updParts c f =
      { s with
        actions := actions.filter fun a => !a.parts.all fun q => ended q.state
        report :=
          (actions.filter fun a => a.parts.all fun q => ended q.state).foldl
            (fun q a =>
              q.post s.tuning.attention a.event (if a.parts.all fun x => decide (x.state = .confirmed) then .done else .incomplete) a.notEngaged)
            s.report }) ∧
  (∀ (s : State) (c : Nat) (k : Container) (f : HatchRecord → HatchRecord), s.container? c = some k →
    s.followParts c = (if s.onlineAt c = true then s.updParts c (PartState.follow s.tuning.settleTime k) else s) ∧
    (s.changeHatch c f).actions =
      (if s.onlineAt c = true then (s.updParts c (PartState.follow s.tuning.settleTime { k with hatch := f k.hatch })).actions
      else s.actions) ∧
    (s.changeHatch c f).report =
      (if s.onlineAt c = true then (s.updParts c (PartState.follow s.tuning.settleTime { k with hatch := f k.hatch })).report
      else s.report) ∧
    s.dropContainer c =
      { s.updParts c PartState.giveUp with collection := s.collection.filter fun e => e.container != c }) ∧
  (∀ (s : State) (t : Nat),
    (s.monitorOffline t).actions = ((s.containersAt t).foldl (fun u c => u.updParts c PartState.giveUp) s).actions ∧
    (s.monitorOffline t).report = ((s.containersAt t).foldl (fun u c => u.updParts c PartState.giveUp) s).report) ∧
  ∀ (s : State) (i c : Nat) (a a' : HeldAction), (∀ x ∈ s.actions, x.complete = false) → s.actions[i]? = some a →
    (∃ q ∈ a.parts, q.container = c ∧ ∃ n, q.state = .window n) →
    a' = { a with
      parts := a.parts.map fun q =>
        match q.state with
        | .window _ => if q.container = c then { q with state := .notEngaged } else q
        | _ => q } →
    ((∃ q ∈ a'.parts, q.state = .waiting ∨ ∃ n, q.state = .window n) →
      exec (.confirmationWindowExpiry i c) s = .next { s with actions := s.actions.set i a' }) ∧
    ((∀ q ∈ a'.parts, q.state = .confirmed ∨ q.state = .notEngaged) →
      exec (.confirmationWindowExpiry i c) s =
        .next (({ s with actions := s.actions.eraseIdx i }).postResult a.event .incomplete a'.notEngaged)) ∧
    ∀ slot, slot < 4 → a'.notEngaged.getLsbD slot = a'.parts.any fun q => decide (q.state = .notEngaged ∧ q.container % 4 = slot)

/-- A contact is compared unless the pattern, the mask or its settle state excludes it; a station is matched when every contact compared is accepted
at its expected value, and the mismatch set holds those accepted at another (R155). The comparison of a reply makes a matched station ARMED and an
unmatched one UNARMED; only a contact-driven one that finds an ARMED station unmatched raises INTEGRITY, with the flags of the containers in the
mismatch set and their mismatching contacts in the body; a SUSPENDED station is not compared (R156, R157). Raising by action (R167 to R169): NONE
posts at once; LIST_INSPECTION inserts or raises the named containers and posts DONE; a lock action blocks and withdraws the hatches it acts on,
starts one part each, and posts DONE at once or holds the event. When in a reply the comparison is made, the order of containers, the other bits of
the accepted values, and a body that names no container, when the station is unmatched by contacts with no accepted value alone, are the model's
(assumptions 8, 33, 39 and 43). -/
def Obligations.IntegrityRaised : Prop :=
  (∀ (s : State) (c : Nat) (k : Container) (expected : PerContact (Option Bool)), s.container? c = some k →
    expected =
      { hc := if k.mask.hc = true then none else (s.pattern c).hc
        hl := if k.mask.hl = true ∨ k.settleHL ≠ .included then none else (s.pattern c).hl
        ll := if k.mask.ll = true ∨ k.settleLL ≠ .included then none else (s.pattern c).ll
        se := if k.mask.se = true then none else (s.pattern c).se
        pd := if k.mask.pd = true then none else (s.pattern c).pd } →
    (k.matched (s.pattern c) = true ↔
      (expected.hc = none ∨ k.contacts.hc.accepted = expected.hc) ∧ (expected.hl = none ∨ k.contacts.hl.accepted = expected.hl) ∧
      (expected.ll = none ∨ k.contacts.ll.accepted = expected.ll) ∧ (expected.se = none ∨ k.contacts.se.accepted = expected.se) ∧
      (expected.pd = none ∨ k.contacts.pd.accepted = expected.pd)) ∧
    k.mismatch (s.pattern c) =
      { hc := decide (∃ v, expected.hc = some v ∧ k.contacts.hc.accepted = some (!v))
        hl := decide (∃ v, expected.hl = some v ∧ k.contacts.hl.accepted = some (!v))
        ll := decide (∃ v, expected.ll = some v ∧ k.contacts.ll.accepted = some (!v))
        se := decide (∃ v, expected.se = some v ∧ k.contacts.se.accepted = some (!v))
        pd := decide (∃ v, expected.pd = some v ∧ k.contacts.pd.accepted = some (!v)) }) ∧
  (∀ (s : State) (t : Nat) (st : Station), s.station? t = some st → st.slots.length ≤ 4 →
    (s.stationMatched t = true ↔ ∀ c k, c / 4 = t → s.container? c = some k → k.matched (s.pattern c) = true) ∧
    s.breaches t = (s.containersAt t).filterMap fun c => (s.container? c).bind fun k =>
      if (k.mismatch (s.pattern c)).toList.any id = true then
        some
          { container := c
            mismatch := k.mismatch (s.pattern c)
            accepted :=
              { hc := (k.mismatch (s.pattern c)).hc && k.contacts.hc.accepted == some true
                hl := (k.mismatch (s.pattern c)).hl && k.contacts.hl.accepted == some true
                ll := (k.mismatch (s.pattern c)).ll && k.contacts.ll.accepted == some true
                se := (k.mismatch (s.pattern c)).se && k.contacts.se.accepted == some true
                pd := (k.mismatch (s.pattern c)).pd && k.contacts.pd.accepted == some true } }
      else none) ∧
  (∀ (s : State) (t : Nat) (st : Station), s.station? t = some st → st.slots.length ≤ 4 →
    (∀ contactDriven, s.compare t .suspended contactDriven = s) ∧
    (s.stationMatched t = true → ∀ before contactDriven, before ≠ .suspended →
      s.compare t before contactDriven = s.updStation t fun st => { st with status := .armed }) ∧
    (s.stationMatched t = false →
      (∀ before, before ≠ .suspended → s.compare t before false = s.updStation t fun st => { st with status := .unarmed }) ∧
      s.compare t .unarmed true = (s.updStation t fun st => { st with status := .unarmed }) ∧
      (∃ u : State, s.compare t .armed true = u.raise .integrity t none ((s.breaches t).map Breach.container) (.integrity (s.breaches t)) ∧
        (∀ c k, c / 4 = t → s.container? c = some k →
          u.container? c = some
            { k with flags := { k.flags with integrity := k.flags.integrity || (k.mismatch (s.pattern c)).any id } }) ∧
        (∀ c, c / 4 ≠ t → u.container? c = s.container? c) ∧ { u with stations := s.stations } = s) ∧
      ((s.bindingOf .integrity).action = .none →
        (∃ st' : Station, (s.compare t .armed true).station? t = some st' ∧ st'.status = .unarmed) ∧
        (∀ c k, c / 4 = t → s.container? c = some k →
          (s.compare t .armed true).container? c = some
            { k with flags := { k.flags with integrity := k.flags.integrity || (k.mismatch (s.pattern c)).any id } }) ∧
        (∀ c, c / 4 ≠ t → (s.compare t .armed true).container? c = s.container? c) ∧
        (s.compare t .armed true).report =
          s.report.post s.tuning.attention (s.event .integrity (some t) none (.integrity (s.breaches t))) .none 0 ∧
        { s.compare t .armed true with stations := s.stations, report := s.report } = s))) ∧
  ∀ (s : State) (cls : EventClass) (t : Nat) (container : Option Nat) (named cs : List Nat) (body : EventBody) (e : Event),
    e = s.event cls (some t) container body →
    ((s.bindingOf cls).action = .none →
      s.raise cls t container named body = { s with report := s.report.post s.tuning.attention e .none 0 }) ∧
    ((s.bindingOf cls).action = .listInspection →
      ∃ u : State, s.raise cls t container named body = { u with report := u.report.post s.tuning.attention e .done 0 } ∧
        (∀ c k, s.container? c = some k → c ∈ named → k.latched.isSome = true →
          u.entry? c = some
            (match s.entry? c with
              | none =>
                { container := c, reason := .inspection, claimed := false, day := s.clock.day, second := s.clock.second,
                  forecast := k.est.forecast }
              | some x =>
                { x with reason := if 4 < x.reason.code then .inspection else x.reason, forecast := k.est.forecast })) ∧
        (∀ c, c ∉ named ∨ (s.container? c).bind Container.latched = none → u.entry? c = s.entry? c) ∧
        { u with collection := s.collection, report := s.report } = s) ∧
    (((s.bindingOf cls).action = .lockContainer ∧ cs = named) ∨ ((s.bindingOf cls).action = .lockStation ∧ cs = s.containersAt t) →
      s.actions = [] → cs.Nodup →
      (∀ c ∈ cs, ∃ k, s.container? c = some k ∧ (k.hatch.state = .released → s.phaseOf c ≠ some .pending)) →
      ∃ (u : State) (a : HeldAction),
        (∀ c, c ∉ cs → u.container? c = s.container? c) ∧
        (∀ c k, c ∈ cs → s.container? c = some k → ∃ k' : Container, u.container? c = some k' ∧
          SameButSettle k'
            { k with
              blocked := k.blocked.or (some .integrityAction)
              hatch :=
                (match k.hatch.state, k.hatch.force with
                  | .locked, _ => k.hatch
                  | .released, _ =>
                    { state := .locked, force := if k.hatch.force = .release then .none else k.hatch.force, admission := none,
                      window := none, deposit := none, closeAction := .lock }
                  | .opened, .release => { k.hatch with force := .none, closeAction := .lock }
                  | .opened, _ => k.hatch)
              outputs := if k.hatch.state = .released then { k.outputs with lock := .engage } else k.outputs }) ∧
        u.directory =
          (cs.foldl (fun x c =>
            match s.container? c with
            | some k => x.returnAdmission (if k.hatch.state = .released then k.hatch.admission else none)
            | none => x) s).directory ∧
        { u with stations := s.stations, directory := s.directory } = s ∧
        a.event = e ∧
        a.parts.map Part.container = cs ∧
        (∀ q ∈ a.parts, ∀ k, s.container? q.container = some k →
          q.state =
            (if k.hatch.state = .opened then .waiting
            else if k.contacts.hl.accepted = some true ∨ k.mask.hl = true then .confirmed
            else .window s.tuning.settleTime)) ∧
        ((∀ q ∈ a.parts, q.state = .confirmed) →
          s.raise cls t container named body = { u with report := s.report.post s.tuning.attention e .done 0 }) ∧
        ((∃ q ∈ a.parts, q.state ≠ .confirmed) → s.raise cls t container named body = { u with actions := [a] }))

/-- FLAGS_CLEAR clears every selected flag of every member and replies with the flags as they stood; an empty set, a selection outside the flags or a
target kind other than containers and stations (R185) is RANGE, a member not in use or not defined NOT_FOUND (R171). UNBLOCK clears BLOCKED with its
cause, which the reply gives (R163). The byte of the UNBLOCK reply, a code of R49 with 0 for not blocked, the layout of the flags in the other reply
with its zero bits, and RANGE before NOT_FOUND for a station request, are the model's choice (assumptions 14, 38 and 41). -/
def Obligations.FlagsAndBlocksCleared : Prop :=
  (∀ (s : State) (p : Port) (set sel : Nat), Ready s p → set < 2 ^ 64 → sel < 256 →
    (set = 0 → exec (.flagsClear p (request 28 (0 :: bytesOf 8 set ++ [byteOf sel]))) s = .next (s.answer p 28 .range [])) ∧
    (set ≠ 0 → (∃ c, set.testBit c = true ∧ s.container? c = none) →
      exec (.flagsClear p (request 28 (0 :: bytesOf 8 set ++ [byteOf sel]))) s = .next (s.answer p 28 .notFound [])) ∧
    (set ≠ 0 → (∀ c, set.testBit c = true → (s.container? c).isSome = true) →
      ∃ t : State, exec (.flagsClear p (request 28 (0 :: bytesOf 8 set ++ [byteOf sel]))) s =
          .next (t.reply p 28 .ok (((List.range 64).filter fun c => set.testBit c).map fun c =>
            ((s.container? c).map fun k => k.flags.byte).getD 0)) ∧
        (∀ c, t.container? c = (s.container? c).map fun k =>
          if set.testBit c then { k with flags := k.flags.clearSelected sel } else k) ∧
        (∀ u, (t.station? u).map (fun st => { st with slots := [] }) = (s.station? u).map fun st => { st with slots := [] }) ∧
        { t with stations := s.stations } = s.taken p)) ∧
  (∀ (s : State) (p : Port) (set sel : Nat), Ready s p → set < 2 ^ 16 → sel < 256 →
    (set = 0 ∨ 16 ≤ sel → exec (.flagsClear p (request 28 (1 :: bytesOf 2 set ++ [byteOf sel]))) s = .next (s.answer p 28 .range [])) ∧
    (set ≠ 0 → sel < 16 → (∃ u, set.testBit u = true ∧ s.station? u = none) →
      exec (.flagsClear p (request 28 (1 :: bytesOf 2 set ++ [byteOf sel]))) s = .next (s.answer p 28 .notFound [])) ∧
    (set ≠ 0 → sel < 16 → (∀ u, set.testBit u = true → (s.station? u).isSome = true) →
      ∃ t : State, exec (.flagsClear p (request 28 (1 :: bytesOf 2 set ++ [byteOf sel]))) s =
          .next (t.reply p 28 .ok (((List.range 16).filter fun u => set.testBit u).map fun u =>
            ((s.station? u).map fun st => st.flags.byte).getD 0)) ∧
        (∀ u, t.station? u = (s.station? u).map fun st =>
          if set.testBit u then { st with flags := st.flags.clearSelected sel } else st) ∧
        { t with stations := s.stations } = s.taken p)) ∧
  (∀ (f : ContainerFlags) (g : StationFlags) (sel : Nat),
    (f.clearSelected sel).bits = (f.bits.mapIdx fun i b => b && !sel.testBit i) ∧
    (g.clearSelected sel).bits = (g.bits.mapIdx fun i b => b && !sel.testBit i) ∧
    f.bits = [f.passNotice, f.passFull, f.passLock, f.overfill, f.sensorFault, f.hatchHeldOpen, f.actuatorFault, f.integrity] ∧
    g.bits = [g.door, g.flood, g.aux, g.offline] ∧
    (∀ i, f.byte.getLsbD i = f.bits.getD i false) ∧ ∀ i, g.byte.getLsbD i = g.bits.getD i false) ∧
  (∀ (s : State) (p : Port) (kind : Nat) (rest : List Byte), Ready s p → 2 ≤ kind → kind < 256 → rest.length = 9 →
    exec (.flagsClear p (request 28 (byteOf kind :: rest))) s = .next (s.answer p 28 .range [])) ∧
  ∀ (s : State) (p : Port) (c : Nat) (k : Container), Ready s p → s.mode = .supervise → c < 64 → s.container? c = some k →
    exec (.unblock p (request 39 [byteOf c])) s =
      .next (((s.taken p).updContainer c fun k => { k with blocked := none }).reply p 39 .ok [byteOf (blockCode k.blocked)])

/-- A posting (R175, R176): a disabled event changes nothing; an enabled one takes the next sequence number, and its record goes after every record of
its own and higher priorities and before every lower one; at 64 records the earliest of the lowest priority makes room for a higher one, or the new
event is lost, and the overflowed marker is set. -/
def Obligations.PostingTaken : Prop :=
  ∀ (q : Report) (level : Nat) (e : Event) (result : ActionResult) (m : BitVec 4) (r : Record),
    r = { event := e, result := result, notEngaged := m, seq := q.nextSeq } →
    (e.enabled = false → q.post level e result m = q) ∧
    (e.enabled = true →
      (q.post level e result m).nextSeq = q.nextSeq + 1 ∧
      (q.post level e result m).attn = (q.post level e result m).queue.any (fun x => decide (level ≤ x.event.priority)) ∧
      (q.queue.length < 64 →
        (q.post level e result m).overflowed = q.overflowed ∧
        ∃ before after, q.queue = before ++ after ∧ (q.post level e result m).queue = before ++ r :: after ∧
          (∀ x ∈ before, e.priority ≤ x.event.priority) ∧ ∀ x, after.head? = some x → x.event.priority < e.priority) ∧
      (64 ≤ q.queue.length →
        (q.post level e result m).overflowed = true ∧
        ((∀ x ∈ q.queue, e.priority ≤ x.event.priority) → e.priority ≤ 7 → (q.post level e result m).queue = q.queue) ∧
        ∀ before x after, q.queue = before ++ x :: after → x.event.priority < e.priority →
          (∀ y ∈ before, x.event.priority < y.event.priority) → (∀ y ∈ after, x.event.priority ≤ y.event.priority) →
          x.event.priority < 7 →
          ∃ b a, before ++ after = b ++ a ∧ (q.post level e result m).queue = b ++ r :: a ∧
            (∀ y ∈ b, e.priority ≤ y.event.priority) ∧ ∀ y, a.head? = some y → y.event.priority < e.priority))

/-! ### Modes (section 10.4) -/

/-- SET_MODE to the mode in force is answered OK with nothing changed; OPERATE to SUPERVISE changes the mode alone; SUPERVISE to OPERATE also ends
every force state under R111, a RELEASED hatch with its lock at ENGAGE, and changes nothing else in a sound state; entering CONFIGURE is refused BUSY,
naming what stands in its way first, or stops the estimator's timers and suspends every station and settle window (R191); a mode byte that names no
mode is refused RANGE in every mode, in all three rows, which act on their frame's target byte (R185, R189, assumption 18). The codes of the BUSY
reply are free values (assumption 1); that a hatch LOCKED from a force release has the close action LOCK is the model's reading (assumption 19). -/
def Obligations.ModesChanged : Prop :=
  ∀ (s : State) (p : Port), Ready s p →
    (∀ m : Nat, 2 < m → m < 256 → ∀ i : Instr,
      i = .setModeConfigure p (request 3 [byteOf m]) ∨ i = .setModeOperate p (request 3 [byteOf m]) ∨
        i = .setModeSupervise p (request 3 [byteOf m]) →
      exec i s = .next (s.answer p 3 .range [])) ∧
    (s.mode = .configure → exec (.setModeConfigure p (request 3 [0])) s = .next (s.answer p 3 .ok [])) ∧
    (s.mode = .operate → exec (.setModeOperate p (request 3 [1])) s = .next (s.answer p 3 .ok [])) ∧
    (s.mode = .supervise → exec (.setModeSupervise p (request 3 [2])) s = .next (s.answer p 3 .ok [])) ∧
    (s.mode = .operate →
      exec (.setModeSupervise p (request 3 [2])) s = .next (({ s.taken p with mode := .supervise }).reply p 3 .ok [])) ∧
    (s.mode = .supervise →
      ∃ t : State, exec (.setModeOperate p (request 3 [1])) s = .next (t.reply p 3 .ok []) ∧ t.mode = .operate ∧
        (∀ c k, s.container? c = some k → ∃ k' : Container, t.container? c = some k' ∧
          k'.hatch =
            (match k.hatch.force, k.hatch.state with
              | .none, _ => k.hatch
              | .lock, _ => { k.hatch with force := .none }
              | .release, .released =>
                { state := .locked, force := .none, admission := none, window := none, deposit := none, closeAction := .lock }
              | .release, _ => { k.hatch with force := .none, closeAction := .lock }) ∧
          k'.outputs.lock = (if k.hatch.force = .release ∧ k.hatch.state = .released then .engage else k.outputs.lock) ∧
          (OutputsOk s → k'.outputs.latch = k.outputs.latch ∧ k'.outputs.lamp = k.outputs.lamp ∧
            SameButSettle { k' with hatch := k.hatch, outputs := k.outputs } k)) ∧
        (OutputsOk s →
          (∀ c, s.container? c = none → t.container? c = none) ∧
          (∀ u, (t.station? u).map Station.still = (s.station? u).map Station.still) ∧
          { t with mode := s.mode, stations := s.stations, actions := s.actions, report := s.report } = s.taken p)) ∧
    (s.mode ≠ .configure →
      ((∃ c k, s.container? c = some k ∧ k.hatch.state ≠ .locked) →
        exec (.setModeConfigure p (request 3 [0])) s = .next (s.answer p 3 .busy [Config.replyCode .busyHatch])) ∧
      (StationsOk s → (∀ c k, s.container? c = some k → k.hatch.state = .locked) →
        (s.operations ≠ [] →
          exec (.setModeConfigure p (request 3 [0])) s = .next (s.answer p 3 .busy [Config.replyCode .busyOperation])) ∧
        (s.operations = [] → s.round.isSome = true →
          exec (.setModeConfigure p (request 3 [0])) s = .next (s.answer p 3 .busy [Config.replyCode .busyRound])) ∧
        (s.operations = [] → s.round = none → s.directory.edit.isSome = true →
          exec (.setModeConfigure p (request 3 [0])) s = .next (s.answer p 3 .busy [Config.replyCode .busyEdit])) ∧
        (s.operations = [] → s.round = none → s.directory.edit = none → (∀ c k, s.container? c = some k → k.hatch.force ≠ .release) →
          ∃ t : State, exec (.setModeConfigure p (request 3 [0])) s = .next (t.reply p 3 .ok []) ∧ t.mode = .configure ∧
            (∀ c k, s.container? c = some k →
              t.container? c = some
                { k with
                  hatch := { k.hatch with force := if s.mode = .supervise then .none else k.hatch.force }
                  est := { k.est with periodic := none, postDeposit := none }
                  settleHL := if k.settleHL = .deferred then .deferred else .included
                  settleLL := if k.settleLL = .deferred then .deferred else .included }) ∧
            (∀ u, (t.station? u).map (fun st => { st with slots := [] }) =
              (s.station? u).map fun st => { st with slots := [], status := .suspended }) ∧
            { t with mode := s.mode, stations := s.stations, actions := s.actions, report := s.report } = s.taken p)))

/-- SET_MODE out of CONFIGURE is refused INCOMPLETE with the lowest container that has neither setup; otherwise every pending setup is latched, every
written container reinitialised with H at 255, every post-deposit timer stopped, the schedule entered with a measurement requested at each ONLINE
latched container, at every ONLINE station each DEFERRED HL and LL with an accepted value INCLUDED and a settle window started for each INCLUDED one
that differs, the station evaluated, and the reply counts the containers reinitialised (R26, R28, R158, R190). What a SET_MODE row does follows its
frame's target byte, and a contact not yet accepted starts no window (assumptions 18 and 28). -/
def Obligations.ConfigureLeft : Prop :=
  ∀ (s : State) (p : Port) (target : Mode) (i : Instr), Ready s p → s.mode = .configure → StationsOk s →
    (target = .operate ∧ i = .setModeOperate p (request 3 [1])) ∨ (target = .supervise ∧ i = .setModeSupervise p (request 3 [2])) →
    (∀ c k, s.container? c = some k → k.latched = none → k.written = none →
      (∀ d k', d < c → s.container? d = some k' → k'.latched.isSome = true ∨ k'.written.isSome = true) →
      exec i s = .next (s.answer p 3 .incomplete [byteOf c])) ∧
    ((∀ c k, s.container? c = some k → k.latched.isSome = true ∨ k.written.isSome = true) →
      ∃ t : State, exec i s =
          .next (t.reply p 3 .ok [byteOf (s.containersInUse.filter fun c => ((s.container? c).map Container.writtenMarker).getD false).length]) ∧
        t.mode = target ∧
        (∀ c k, s.container? c = some k → ∃ k' : Container, t.container? c = some k' ∧
          k'.latched = k.written.or k.latched ∧ k'.written = none ∧ k'.writtenMarker = false ∧
          k'.est.flight = none ∧ k'.est.periodic = some s.tuning.interval ∧
          k'.est.deposits = k.est.deposits ∧ k'.est.last = k.est.last ∧ k'.est.postDeposit = none ∧
          (k.written = none → { k'.est with flight := k.est.flight, periodic := k.est.periodic } = k.est ∧ k'.flags = k.flags) ∧
          (k.written.isSome = true →
            k'.est.smoothed = none ∧ k'.est.credit = 0 ∧ k'.est.credited = 0 ∧ k'.est.level = 0 ∧ k'.est.rate = 0 ∧ k'.est.baseline = none ∧
            k'.est.forecast = 255 ∧ k'.est.band = none ∧ k'.est.candidate = none ∧ k'.est.count = 0 ∧ k'.est.sensor = .unseen ∧ k'.est.rejected = 0 ∧
            k'.flags = { k.flags with passNotice := false, passFull := false, passLock := false }) ∧
          (s.phaseOf c = none → k'.marker = if k.marker = none ∧ s.onlineAt c = true then some { tag := none } else k.marker) ∧
          k'.hatch = k.hatch ∧ k'.blocked = k.blocked ∧ k'.outputs = k.outputs ∧ k'.mask = k.mask ∧ k'.contacts = k.contacts ∧
          (s.onlineAt c = false → k'.settleHL = k.settleHL ∧ k'.settleLL = k.settleLL) ∧
          (s.onlineAt c = true →
            ∀ hl ll : Settle, hl = (if k.settleHL = .deferred ∧ k.contacts.hl.accepted.isSome = true then .included else k.settleHL) →
              ll = (if k.settleLL = .deferred ∧ k.contacts.ll.accepted.isSome = true then .included else k.settleLL) →
              k'.settleHL =
                (if hl = .included ∧ k.mask.hl = false ∧ ∃ v, (s.pattern c).hl = some v ∧ k.contacts.hl.accepted = some (!v) then
                  .settling s.tuning.settleTime
                else hl) ∧
              k'.settleLL =
                (if ll = .included ∧ k.mask.ll = false ∧ ∃ v, (s.pattern c).ll = some v ∧ k.contacts.ll.accepted = some (!v) then
                  .settling s.tuning.settleTime
                else ll))) ∧
        (∀ u st, s.station? u = some st → ∃ st' : Station, t.station? u = some st' ∧
          { st' with slots := [], status := .suspended } = { st with slots := [], status := .suspended } ∧
          st'.status = if st.online then (if t.stationMatched u then .armed else .unarmed) else st.status) ∧
        { t with mode := s.mode, stations := s.stations } = s.taken p)

/-! ### Resets and the clock -/

/-- A cold start: CONFIGURE, the clock at 0 and UNSET, no station, no card, no watch entry, no list entry, no round, no operation, the default rules
and TUNING items and bindings, both ports idle, the service port RESTRICTED with no code, and RESTARTED(COLD, CONFIGURE) alone in the report queue
with sequence number 0, which asserts ATTN (R5, R6, R67, R74, R81, R84, R113, R124, R166, R172, R179, R189, R195). That the record is already in the
queue is the model's choice of when reset ends (assumption 21). -/
def Obligations.ColdStarted : Prop :=
  ∀ s : State, ∃ t : State, exec .coldStart s = .next t ∧
    t.mode = .configure ∧ t.startKind = .cold ∧ t.clock.day = 0 ∧ t.clock.second = 0 ∧ t.clock.unset = true ∧
    (∀ u, t.station? u = none) ∧ t.stations.length = 16 ∧ (∀ c, t.container? c = none) ∧
    t.directory = { cards := [], cursorGateway := none, cursorService := none, edit := none, charged := 1, periodLength := 7 } ∧
    t.watch = [] ∧ t.waiting = [] ∧ t.collection = [] ∧ t.round = none ∧ t.ops = [none, none, none, none] ∧ t.actions = [] ∧
    t.tuning =
      { interval := 900, postDeposit := 15, releaseWindow := 20, depositTime := 90, liftWait := 300, settleTime := 3, horizon := 12,
        attention := 4 } ∧
    t.bindings.map (fun b => (b.enabled, b.priority)) =
      [(true, 5), (true, 3), (true, 5), (true, 4), (true, 1), (false, 2), (true, 3), (true, 4), (true, 3), (true, 1), (true, 7), (true, 7),
        (true, 6), (true, 7), (true, 4), (true, 6), (true, 3), (true, 6)] ∧
    (∀ b ∈ t.bindings, b.action = .none) ∧
    t.gateway.busy = false ∧ t.gateway.remainder = none ∧ t.service.busy = false ∧ t.service.remainder = none ∧
    t.grant = { state := .restricted, failures := 0, code := none, inactivity := none } ∧
    t.report.queue =
      [{ event :=
          { cls := .restarted, enabled := true, priority := 5, day := 0, second := 0, station := none, container := none,
            body := .restarted .cold .configure },
         result := .none, notEngaged := 0, seq := 0 }] ∧
    t.report.overflowed = false ∧ t.report.nextSeq = 1 ∧ t.report.attn = true

/-- A warm start: the mode, the clock, the records, the settings, the list and the watch list kept; reservations, hatches, operations, the round, the
edit, waiting presentations, held actions, the ports and a grant ended; every output at rest; outside CONFIGURE the schedule entered and the seating
checks armed; the report queue, its marker and counter kept, the held events posted oldest first with every part not ended counted as not engaged, and
RESTARTED(WARM) posted last (R22, R27, R28, R74, R80, R81, R112, R113, R128, R150 to R152, R169, R179, R188, R189, R195). That an armed seating check
stays armed in CONFIGURE is the model's reading (assumption 17), and so is the order of the held events (assumption 13). -/
def Obligations.WarmStarted : Prop :=
  ∀ s : State, ∃ t : State, exec .warmStart s = .next t ∧
    t.mode = s.mode ∧ t.startKind = .warm ∧ t.clock = s.clock ∧ t.watch = s.watch ∧ t.bindings = s.bindings ∧ t.tuning = s.tuning ∧
    t.round = none ∧ t.ops = s.ops.map (fun _ => none) ∧ t.waiting = [] ∧ t.actions = [] ∧
    t.collection = s.collection.map (fun e => { e with claimed := false }) ∧
    t.directory =
      { s.directory with
        cards := s.directory.cards.map fun (r : Card) => { r with reserved := 0 }, cursorGateway := none, cursorService := none, edit := none } ∧
    t.gateway = .idle ∧ t.service = .idle ∧ t.bus = { visiting := none, last := none, sent := [] } ∧
    t.grant = { s.grant with state := if s.grant.state = GrantState.granted then .restricted else s.grant.state, inactivity := none } ∧
    (∀ u st, s.station? u = some st → ∃ st' : Station, t.station? u = some st' ∧
      st'.node = st.node ∧ st'.online = true ∧ st'.misses = 0 ∧ st'.inputs = .all .cleared ∧ st'.acknowledged = none ∧ st'.resend = true ∧
      st'.inputSetup = st.inputSetup ∧ st'.flags = st.flags ∧ st'.status = (if s.mode = .configure then .suspended else .unarmed) ∧
      st'.revision = if st.slots.any (fun k => k.outputs != .rest) then st.revision + 1 else st.revision) ∧
    (∀ c k, s.container? c = some k → t.container? c = some
      { k with
        hatch := .rest
        est :=
          { k.est with
            flight := none, postDeposit := none
            periodic := if s.mode = .configure ∨ k.latched = none then none else some s.tuning.interval }
        settleHL := .deferred, settleLL := .deferred
        seatingCheck := if s.mode = .configure then k.seatingCheck else true
        outputs := { lock := .engage, latch := .engage, lamp := .off }, lampHold := none
        marker := if s.mode = .configure ∨ k.latched = none then none else some { tag := none }
        contacts := .all .cleared }) ∧
    t.report =
      ((s.actions.map fun (a : HeldAction) =>
        { a with parts := a.parts.map fun (q : Part) => { q with state := if q.state = PartState.confirmed then .confirmed else .notEngaged } }).foldl
      (fun q a =>
        q.post s.tuning.attention a.event (if a.parts.all fun (x : Part) => decide (x.state = PartState.confirmed) then .done else .incomplete) a.notEngaged)
      s.report).post s.tuning.attention
      { cls := .restarted, enabled := (s.bindingOf .restarted).enabled, priority := (s.bindingOf .restarted).priority, day := s.clock.day,
        second := s.clock.second, station := none, container := none, body := .restarted .warm s.mode } .none 0

/-- A second passes: the second of day counts to 86399 and turns over to 0 with the day, which turns over after 65535; a multiple of 3600 makes an
hour boundary due, which is the model's choice (assumption 4); every running interval timer counts down by one, settle and confirmation windows among
them (R6, R7; that the tick drives the interval timers is the model's choice, assumption 3). -/
def Obligations.SecondPassed : Prop :=
  ∀ s : State, ∃ t : State, exec .clockTick s = .next t ∧
    t.clock.second = (if s.clock.second + 1 < 86400 then s.clock.second + 1 else 0) ∧
    t.clock.day = (if s.clock.second + 1 < 86400 then s.clock.day else if s.clock.day < 65535 then s.clock.day + 1 else 0) ∧
    t.clock.unset = s.clock.unset ∧
    (t.clock.boundaryDue = true ↔ s.clock.boundaryDue = true ∨ t.clock.second % 3600 = 0) ∧
    (∀ c, t.container? c = (s.container? c).map fun k =>
      { k with
        est :=
          { k.est with
            flight := k.est.flight.map fun x => { x with timeout := x.timeout - 1 }
            periodic := k.est.periodic.map fun n => n - 1
            postDeposit := k.est.postDeposit.map fun n => n - 1 }
        hatch := { k.hatch with window := k.hatch.window.map fun n => n - 1, deposit := k.hatch.deposit.map fun n => n - 1 }
        settleHL := k.settleHL.tick, settleLL := k.settleLL.tick
        lampHold := k.lampHold.map fun n => n - 1 }) ∧
    (∀ u, (t.station? u).map (fun st => { st with slots := [] }) = (s.station? u).map fun st => { st with slots := [] }) ∧
    t.ops = s.ops.map (Option.map fun op => { op with timer := op.timer.map fun n => n - 1 }) ∧
    t.grant = { s.grant with inactivity := s.grant.inactivity.map fun n => n - 1 } ∧
    t.actions = s.actions.map (fun (a : HeldAction) =>
      { a with
        parts := a.parts.map fun (q : Part) =>
          { q with
            state :=
              match q.state with
              | .window n => .window (n - 1)
              | other => other } }) ∧
    (∀ x : Settle, x.tick = (match x with
      | .settling n => .settling (n - 1)
      | other => other)) ∧
    { t with clock := s.clock, stations := s.stations, ops := s.ops, actions := s.actions, grant := s.grant } = s

/-- An hour boundary that is due: every latched container's rate, baseline and forecast by stage 4, and the forecast evaluation of its entry; no other
container, and nothing else, changes. A notice that is not due changes nothing, which is the model's link between the two commands (assumption 4; R7,
R45, R46, R118). Nothing is said of the order in which LIST_ENTRY is posted, which is the model's choice (assumption 33). -/
def Obligations.HourPassed : Prop :=
  ∀ s : State, StationsOk s →
    (s.clock.boundaryDue = false → exec .hourBoundary s = .next s) ∧
    (s.clock.boundaryDue = true →
      ∃ t : State, exec .hourBoundary s = .next t ∧ t.clock = { s.clock with boundaryDue := false } ∧
        (∀ c k, s.container? c = some k → k.latched = none → t.container? c = some k ∧ t.entry? c = s.entry? c) ∧
        (∀ c, s.container? c = none → t.entry? c = s.entry? c) ∧
        (∀ c k x rate h, s.container? c = some k → k.latched = some x →
          rate =
            (match k.est.baseline with
              | none => k.est.rate
              | some ch => (3 * k.est.rate + (k.est.credited - ch) + 2) / 4) →
          h = hoursToFull k.est.credited rate x.tFull →
          t.container? c = some { k with est := { k.est with rate := rate, baseline := some k.est.credited, forecast := h } } ∧
          t.entry? c =
            (match s.entry? c with
              | none =>
                if 0 < s.tuning.horizon ∧ h ≤ s.tuning.horizon then
                  some
                    { container := c, reason := .forecast, claimed := false, day := s.clock.day, second := s.clock.second, forecast := h }
                else none
              | some e =>
                if e.reason = .forecast ∧ e.claimed = false ∧ s.tuning.horizon < h then none else some { e with forecast := h })) ∧
        (∀ u, (t.station? u).map (fun st => { st with slots := [] }) = (s.station? u).map fun st => { st with slots := [] }) ∧
        { t with clock := s.clock, stations := s.stations, collection := s.collection, report := s.report } = s)

/-! ### The station bus (chapter 1) -/

/-- A visit begins at the next station in round-robin order: to an ONLINE one an ACT when the resend marker is set or the revision is not
acknowledged, a MEAS for the marked slots, whose measurements are then in flight with a 2 s timeout, and in every case a POLL (R11, R12, R13, R29,
R34). -/
def Obligations.VisitBegun : Prop :=
  ∀ (s : State) (t : Nat) (st : Station), s.bus.visiting = none → NextVisit s t → s.station? t = some st → st.slots.length ≤ 4 →
    ∀ sendsAct sendsMeas, sendsAct = (st.online && (st.resend || st.acknowledged != some st.revision)) →
      sendsMeas = (st.online && st.slots.any fun k => k.marker.isSome) →
      ∃ u : State, exec .stationVisit s = .next u ∧
        u.bus.visiting = some t ∧ u.bus.last = some t ∧
        u.bus.sent =
          (if sendsAct then
            [busFrame st.node 1 (st.revision :: st.slots.flatMap fun k => [k.outputs.lock.byte, k.outputs.latch.byte, k.outputs.lamp.byte])]
          else []) ++
          (if sendsMeas then [busFrame st.node 2 [byteOf (ofBits (st.slots.map fun k => k.marker.isSome))]] else []) ++
          [busFrame st.node 3 []] ∧
        (∀ c k, c / 4 = t → s.container? c = some k →
          u.container? c = some
            (match k.marker with
              | some m =>
                if st.online then
                  { k with
                    marker := none
                    est :=
                      { k.est with
                        flight := some { tag := m.tag, timeout := 2 }
                        periodic := if s.mode = .configure then k.est.periodic else some s.tuning.interval } }
                else k
              | none => k)) ∧
        (∀ c, c / 4 ≠ t → u.container? c = s.container? c) ∧
        (∀ v, v ≠ t → u.station? v = s.station? v) ∧
        (u.station? t).map (fun x => { x with slots := [] }) = some { st with slots := [], resend := st.resend && !sendsAct } ∧
        { u with bus := s.bus, stations := s.stations } = s

/-- A valid reply is the frame of a report with one block for each slot, in range, byte by byte (R10, R14); an invalid one is a miss, and with no
visit in progress bytes are ignored (R11, R15). A valid reply ends the visit, sets the misses to 0 and the station ONLINE, takes the revision, and
puts every contact and input through its filter (R12, R15, R16, R18). Then each slot, in ascending order, has its contacts, its card read and its echo
handed on; then come the comparison and the inputs DOOR, FLOOD, AUX (R17, R156): an EDGE input raises at an accepted change to its active value, a
LEVEL one at every reply at it while its flag is clear (R165). A station that was OFFLINE is marked and STATION_ONLINE posted before, with the image
to be sent again, and has every HL and LL DEFERRED and, outside CONFIGURE, its evaluation after (R20, R158). That the filters take the whole reply
first, where the comparison stands, and the order of the inputs are the model's (assumptions 7, 8 and 35); so is the definition by which a reply is
judged after a redefinition (assumption 32). -/
def Obligations.ReplyTaken : Prop :=
  (∀ (s : State) (t : Nat) (st : Station) (bytes : List Byte), s.bus.visiting = some t → s.station? t = some st →
    (readReply st.node st.slots.length bytes = none → exec (.pollReply bytes) s = exec .pollReplyInvalid s) ∧
    ∀ r, readReply st.node st.slots.length bytes = some r →
      ∃ (u : State) (st' : Station), exec (.pollReply bytes) s = .next u ∧
        u.bus.visiting = none ∧ u.station? t = some st' ∧ st'.online = true ∧ st'.misses = 0 ∧ st'.acknowledged = some r.revision ∧
        st'.inputs.door = st.inputs.door.report r.inputs.door ∧ st'.inputs.flood = st.inputs.flood.report r.inputs.flood ∧
        st'.inputs.aux = st.inputs.aux.report r.inputs.aux ∧
        (∀ i k x, i < 4 → s.container? (4 * t + i) = some k → r.slots[i]? = some x →
          ∃ k' : Container, u.container? (4 * t + i) = some k' ∧ k'.contacts.toList =
            List.zipWith Filter.report x.contacts.toList k.contacts.toList) ∧
        (StationsOk s → st.online = false →
          st'.resend = true ∧
          (∀ i k', i < 4 → u.container? (4 * t + i) = some k' → k'.settleHL = .deferred ∧ k'.settleLL = .deferred) ∧
          st'.status = (if s.mode = .configure then .suspended else if u.stationMatched t = true then .armed else .unarmed)) ∧
        u.clock = s.clock ∧ u.mode = s.mode ∧ u.watch = s.watch ∧ u.bindings = s.bindings ∧ u.tuning = s.tuning ∧ u.gateway = s.gateway ∧
        u.service = s.service ∧ u.grant = s.grant) ∧
  (∀ (s : State) (bytes : List Byte), s.bus.visiting = none → exec (.pollReply bytes) s = .next s) ∧
  (∀ (x : Bool) (f : Filter),
    f.report x = { previous := some x, accepted := if f.previous = some x then some x else f.accepted } ∧
    f.acceptance x =
      (if f.previous ≠ some x ∨ f.accepted = some x then .none else if f.accepted = none then .initial else .changed)) ∧
  (∀ (node n : Nat) (bytes : List Byte) (r : PollReport), node < 256 → n ≤ 4 →
    (readReply node n bytes = some r ↔
      r.slots.length = n ∧ (∀ x ∈ r.slots, ∀ d q, x.echo = some (.heard d q) → d ≤ 4095 ∧ q ≤ 15) ∧
        bytes = busFrame node 0x83 r.body)) ∧
  (∀ (node kind : Nat) (body : List Byte), ∃ check : Byte,
    busFrame node kind body = 0x5A :: byteOf node :: byteOf kind :: byteOf body.length :: body ++ [check] ∧
    ((byteOf node :: byteOf kind :: byteOf body.length :: body ++ [check]).map BitVec.toNat).sum % 256 = 0) ∧
  (∀ (s : State) (t : Nat) (st : Station) (bytes : List Byte) (r : PollReport), s.bus.visiting = some t → s.station? t = some st →
    readReply st.node st.slots.length bytes = some r →
    ∃ marked handed compared judged final : State,
      marked =
        (if st.online = true then s
        else
          { s.updStation t (fun st => { st with online := true, misses := 0, resend := true }) with
            report := s.report.post s.tuning.attention (s.event .stationOnline (some t) none .stationOnline) .none 0 }) ∧
      handed =
        (List.range st.slots.length).foldl (fun u i =>
          match r.slots[i]?, st.slots[i]? with
          | some x, some k => ((u.handContacts (4 * t + i) (acceptedOf x k)).handCard (4 * t + i) x.card).handEcho (4 * t + i) x.echo
          | _, _ => u) (marked.updStation t (Station.after r)) ∧
      compared =
        handed.compare t st.status
          ((List.zipWith acceptedOf r.slots st.slots).any fun a => a.toList.any fun x => decide (x = .changed)) ∧
      judged =
        (let acc : PerInput Acceptance :=
          { door := st.inputs.door.acceptance r.inputs.door, flood := st.inputs.flood.acceptance r.inputs.flood
            aux := st.inputs.aux.acceptance r.inputs.aux }
        ((compared.takeInput t acc .door).takeInput t acc .flood).takeInput t acc .aux) ∧
      final =
        (if st.status = .suspended then judged
        else judged.updStation t fun st => { st with status := if handed.stationMatched t = true then .armed else .unarmed }) ∧
      exec (.pollReply bytes) s =
        .next { (if st.online = true then final else final.onlineNotice t) with bus := { s.bus with visiting := none } }) ∧
  (∀ (s : State) (c : Nat) (acc : PerContact Acceptance) (id : CardId),
    s.handContacts c acc =
      (if acc.toList.all fun x => decide (x = .none) then s
      else (((s.admissionContacts c acc).emptyingContacts c acc).settleContacts c).followParts c) ∧
    s.handCard c (some id) = s.present c id ∧ s.handCard c none = s ∧ s.handEcho c none = s) ∧
  ∀ (s : State) (t : Nat) (st : Station) (acc : PerInput Acceptance), s.station? t = some st →
    ∀ (i : Input) (x : InputSetup) (accepted : Option Bool) (change : Acceptance) (flag : Bool) (cls : EventClass) (flags : StationFlags),
      (i, x, accepted, change, flag, cls, flags) ∈
        [(Input.door, st.inputSetup.door, st.inputs.door.accepted, acc.door, st.flags.door, EventClass.doorInput, { st.flags with door := true }),
          (.flood, st.inputSetup.flood, st.inputs.flood.accepted, acc.flood, st.flags.flood, .floodInput, { st.flags with flood := true }),
          (.aux, st.inputSetup.aux, st.inputs.aux.accepted, acc.aux, st.flags.aux, .auxInput, { st.flags with aux := true })] →
      (accepted = some x.active → (x.trigger = .edge → change = .changed) → (x.trigger = .level → flag = false) →
        s.takeInput t acc i =
          (s.updStation t fun st => { st with flags := flags }).raise cls t none (s.containersAt t) (.input x.active x.trigger)) ∧
      (accepted ≠ some x.active ∨ (x.trigger = .edge ∧ change ≠ .changed) ∨ (x.trigger = .level ∧ flag = true) → s.takeInput t acc i = s)

/-- A visit that ends without a valid reply: at an OFFLINE station, or one that has been removed, nothing but the end of the visit; at an ONLINE one
the miss count advances, and the third miss takes the station OFFLINE: flag set, filters and markers cleared, every hatch LOCKED with its lock at
ENGAGE and its reservation returned, operations in PENDING and UNLATCHED ended ABANDONED and one in RETURNED whose attempt 3 is lost PARTIAL,
measurements ended, confirmation parts ended, status SUSPENDED, no settle window started, those running and FAULTED ended and DEFERRED ones kept.
STATION_OFFLINE is posted first, then what the operations' ends and the held events post; no other station or container changes (R13, R15, R19, R34,
R107, R142, R144, R148, R158, R161, R168). The three commands act alike; the third miss is answered a next state in every state whose operations are
sound, and all of it is said at a station of at most four slots (R1). The order of the posts of different blocks and of the containers is the model's
(assumptions 33 and 34). -/
def Obligations.VisitMissed : Prop :=
  ∀ (s : State) (i : Instr), i = .pollReplyTimeout ∨ i = .pollReplyInvalid ∨ i = .busByteGapTimeout →
    (s.bus.visiting = none → exec i s = .next s) ∧
    (∀ t, s.bus.visiting = some t → s.station? t = none → exec i s = .next { s with bus := { s.bus with visiting := none } }) ∧
    ∀ t st, s.bus.visiting = some t → s.station? t = some st →
      (st.online = false → exec i s = .next { s with bus := { s.bus with visiting := none } }) ∧
      (st.online = true → st.misses < 2 →
        exec i s = .next { s.updStation t (fun st => { st with misses := st.misses + 1 }) with bus := { s.bus with visiting := none } }) ∧
      (EmptyingOk s → st.online = true → 2 ≤ st.misses →
        ∃ (u : State) (st' : Station), exec i s = .next u ∧ u.bus = { s.bus with visiting := none } ∧
          u.station? t = some st' ∧ st'.online = false ∧ st'.misses = 3 ∧ st'.flags.offline = true ∧ st'.status = .suspended ∧
          st'.inputs = .all .cleared ∧
          (∀ c k, c / 4 = t → s.container? c = some k → ∃ k' : Container, u.container? c = some k' ∧
            k'.contacts = .all .cleared ∧ k'.marker = none ∧ k'.est.flight = none ∧ k'.hatch.state = .locked ∧
            k'.settleHL = (if k.settleHL = .deferred then .deferred else .included) ∧
            k'.settleLL = (if k.settleLL = .deferred then .deferred else .included)) ∧
          (∀ a ∈ u.actions, ∀ q ∈ a.parts, q.container / 4 = t → (s.container? q.container).isSome = true →
            q.state = .confirmed ∨ q.state = .notEngaged) ∧
          (∀ op ∈ u.operations, op.container / 4 = t → op.phase = .lifted ∨ op.phase = .returned) ∧
          (st.slots.length ≤ 4 →
            ∀ (here abandoned early late : List Operation),
              here = s.operations.filter (fun op => decide (op.container / 4 = t)) →
              abandoned = here.filter (fun op => decide (s.offlineOutcome op = some .abandoned)) →
              early = here.filter (fun op => decide (s.offlineOutcome op = some .partialLift) &&
                (s.container? op.container).any fun k => k.marker.any fun m => m.tag.isSome) →
              late = here.filter (fun op => decide (s.offlineOutcome op = some .partialLift) &&
                (s.container? op.container).any fun k => !k.marker.any fun m => m.tag.isSome) →
              { st' with slots := [], revision := 0 } =
                { st with slots := [], revision := 0, online := false, misses := 3, status := .suspended, inputs := .all .cleared,
                          flags := { st.flags with offline := true } } ∧
              (∀ c k, c / 4 = t → s.container? c = some k →
                u.container? c = some
                  { k with
                    contacts := .all .cleared
                    marker := none
                    est := { k.est with flight := none }
                    hatch :=
                      if k.hatch.state = .locked then k.hatch
                      else
                        { state := .locked, force := if k.hatch.force = .release then .none else k.hatch.force, admission := none, window := none,
                          deposit := none, closeAction := .lock }
                    outputs :=
                      { k.outputs with
                        lock := if k.hatch.state = .locked then k.outputs.lock else .engage
                        latch := if ((s.opOf c).bind s.offlineOutcome).isSome = true then .engage else k.outputs.latch }
                    settleHL := if k.settleHL = .deferred then .deferred else .included
                    settleLL := if k.settleLL = .deferred then .deferred else .included }) ∧
              (∀ c, (c / 4 ≠ t ∨ s.container? c = none) → u.container? c = s.container? c) ∧
              (∀ v, v ≠ t → u.station? v = s.station? v) ∧
              u.directory =
                ((s.containersAt t).foldl (fun v c =>
                  v.returnAdmission ((s.container? c).bind fun k => if k.hatch.state = .locked then none else k.hatch.admission)) s).directory ∧
              u.ops = s.ops.map (fun x => x.bind fun x =>
                if x.container / 4 = t ∧ (s.offlineOutcome x).isSome = true then none
                else
                  some
                    { x with
                      order := x.order - (here.filter fun y => (s.offlineOutcome y).isSome && decide (y.order < x.order)).length }) ∧
              (s.round = none → u.round = none) ∧
              (∀ r, s.round = some r → r.nAbandoned ≤ 65535 → r.nPartial ≤ 65535 →
                u.round = some
                  { r with
                    nAbandoned := min 65535 (r.nAbandoned + abandoned.length)
                    nPartial := min 65535 (r.nPartial + (early ++ late).length) }) ∧
              (∀ d, u.entry? d = (s.entry? d).map fun e =>
                if (early ++ late).any (fun op => op.container == d) = true then { e with reason := .partialLift, claimed := false } else e) ∧
              (early ++ late = [] → u.collection = s.collection) ∧
              (∀ offline ended followed,
                offline = s.report.post s.tuning.attention (s.event .stationOffline (some t) none .stationOffline) .none 0 →
                ended =
                  abandoned.foldl (fun q op => s.reportEnded .abandoned op q)
                    (early.foldl (fun q op => s.reportEnded .partialLift op q) offline) →
                followed = (s.containersAt t).foldl (fun v c => v.updParts c PartState.giveUp) { s with report := ended } →
                u.actions = followed.actions ∧
                u.report = late.foldl (fun q op => s.reportEnded .partialLift op q) followed.report) ∧
              { u with
                stations := s.stations, directory := s.directory, collection := s.collection, round := s.round, ops := s.ops,
                actions := s.actions, report := s.report, bus := s.bus } = s))
end

