-- ==== Sys2Proof/Laws/State.lean ====
section
/-!
SUPPORT. One lemma per field per update: what an update of one part of the state leaves as it was.
-/
namespace Sys2Proof.Machine

/-! #### updStation -/

@[simp] theorem State.updStation_pending (s : State) (t : Nat) (f : Station → Station) : (s.updStation t f).pending = s.pending := rfl
@[simp] theorem State.updStation_clock (s : State) (t : Nat) (f : Station → Station) : (s.updStation t f).clock = s.clock := rfl
@[simp] theorem State.updStation_mode (s : State) (t : Nat) (f : Station → Station) : (s.updStation t f).mode = s.mode := rfl
@[simp] theorem State.updStation_startKind (s : State) (t : Nat) (f : Station → Station) : (s.updStation t f).startKind = s.startKind := rfl
@[simp] theorem State.updStation_bus (s : State) (t : Nat) (f : Station → Station) : (s.updStation t f).bus = s.bus := rfl
@[simp] theorem State.updStation_directory (s : State) (t : Nat) (f : Station → Station) : (s.updStation t f).directory = s.directory := rfl
@[simp] theorem State.updStation_watch (s : State) (t : Nat) (f : Station → Station) : (s.updStation t f).watch = s.watch := rfl
@[simp] theorem State.updStation_waiting (s : State) (t : Nat) (f : Station → Station) : (s.updStation t f).waiting = s.waiting := rfl
@[simp] theorem State.updStation_collection (s : State) (t : Nat) (f : Station → Station) : (s.updStation t f).collection = s.collection := rfl
@[simp] theorem State.updStation_round (s : State) (t : Nat) (f : Station → Station) : (s.updStation t f).round = s.round := rfl
@[simp] theorem State.updStation_ops (s : State) (t : Nat) (f : Station → Station) : (s.updStation t f).ops = s.ops := rfl
@[simp] theorem State.updStation_actions (s : State) (t : Nat) (f : Station → Station) : (s.updStation t f).actions = s.actions := rfl
@[simp] theorem State.updStation_bindings (s : State) (t : Nat) (f : Station → Station) : (s.updStation t f).bindings = s.bindings := rfl
@[simp] theorem State.updStation_report (s : State) (t : Nat) (f : Station → Station) : (s.updStation t f).report = s.report := rfl
@[simp] theorem State.updStation_tuning (s : State) (t : Nat) (f : Station → Station) : (s.updStation t f).tuning = s.tuning := rfl
@[simp] theorem State.updStation_gateway (s : State) (t : Nat) (f : Station → Station) : (s.updStation t f).gateway = s.gateway := rfl
@[simp] theorem State.updStation_service (s : State) (t : Nat) (f : Station → Station) : (s.updStation t f).service = s.service := rfl
@[simp] theorem State.updStation_grant (s : State) (t : Nat) (f : Station → Station) : (s.updStation t f).grant = s.grant := rfl

/-! #### setStation -/

@[simp] theorem State.setStation_pending (s : State) (t : Nat) (o : Option Station) : (s.setStation t o).pending = s.pending := rfl
@[simp] theorem State.setStation_clock (s : State) (t : Nat) (o : Option Station) : (s.setStation t o).clock = s.clock := rfl
@[simp] theorem State.setStation_mode (s : State) (t : Nat) (o : Option Station) : (s.setStation t o).mode = s.mode := rfl
@[simp] theorem State.setStation_startKind (s : State) (t : Nat) (o : Option Station) : (s.setStation t o).startKind = s.startKind := rfl
@[simp] theorem State.setStation_bus (s : State) (t : Nat) (o : Option Station) : (s.setStation t o).bus = s.bus := rfl
@[simp] theorem State.setStation_directory (s : State) (t : Nat) (o : Option Station) : (s.setStation t o).directory = s.directory := rfl
@[simp] theorem State.setStation_watch (s : State) (t : Nat) (o : Option Station) : (s.setStation t o).watch = s.watch := rfl
@[simp] theorem State.setStation_waiting (s : State) (t : Nat) (o : Option Station) : (s.setStation t o).waiting = s.waiting := rfl
@[simp] theorem State.setStation_collection (s : State) (t : Nat) (o : Option Station) : (s.setStation t o).collection = s.collection := rfl
@[simp] theorem State.setStation_round (s : State) (t : Nat) (o : Option Station) : (s.setStation t o).round = s.round := rfl
@[simp] theorem State.setStation_ops (s : State) (t : Nat) (o : Option Station) : (s.setStation t o).ops = s.ops := rfl
@[simp] theorem State.setStation_actions (s : State) (t : Nat) (o : Option Station) : (s.setStation t o).actions = s.actions := rfl
@[simp] theorem State.setStation_bindings (s : State) (t : Nat) (o : Option Station) : (s.setStation t o).bindings = s.bindings := rfl
@[simp] theorem State.setStation_report (s : State) (t : Nat) (o : Option Station) : (s.setStation t o).report = s.report := rfl
@[simp] theorem State.setStation_tuning (s : State) (t : Nat) (o : Option Station) : (s.setStation t o).tuning = s.tuning := rfl
@[simp] theorem State.setStation_gateway (s : State) (t : Nat) (o : Option Station) : (s.setStation t o).gateway = s.gateway := rfl
@[simp] theorem State.setStation_service (s : State) (t : Nat) (o : Option Station) : (s.setStation t o).service = s.service := rfl
@[simp] theorem State.setStation_grant (s : State) (t : Nat) (o : Option Station) : (s.setStation t o).grant = s.grant := rfl

/-! #### updContainer -/

@[simp] theorem State.updContainer_pending (s : State) (c : Nat) (f : Container → Container) : (s.updContainer c f).pending = s.pending := rfl
@[simp] theorem State.updContainer_clock (s : State) (c : Nat) (f : Container → Container) : (s.updContainer c f).clock = s.clock := rfl
@[simp] theorem State.updContainer_mode (s : State) (c : Nat) (f : Container → Container) : (s.updContainer c f).mode = s.mode := rfl
@[simp] theorem State.updContainer_startKind (s : State) (c : Nat) (f : Container → Container) : (s.updContainer c f).startKind = s.startKind := rfl
@[simp] theorem State.updContainer_bus (s : State) (c : Nat) (f : Container → Container) : (s.updContainer c f).bus = s.bus := rfl
@[simp] theorem State.updContainer_directory (s : State) (c : Nat) (f : Container → Container) : (s.updContainer c f).directory = s.directory := rfl
@[simp] theorem State.updContainer_watch (s : State) (c : Nat) (f : Container → Container) : (s.updContainer c f).watch = s.watch := rfl
@[simp] theorem State.updContainer_waiting (s : State) (c : Nat) (f : Container → Container) : (s.updContainer c f).waiting = s.waiting := rfl
@[simp] theorem State.updContainer_collection (s : State) (c : Nat) (f : Container → Container) : (s.updContainer c f).collection = s.collection := rfl
@[simp] theorem State.updContainer_round (s : State) (c : Nat) (f : Container → Container) : (s.updContainer c f).round = s.round := rfl
@[simp] theorem State.updContainer_ops (s : State) (c : Nat) (f : Container → Container) : (s.updContainer c f).ops = s.ops := rfl
@[simp] theorem State.updContainer_actions (s : State) (c : Nat) (f : Container → Container) : (s.updContainer c f).actions = s.actions := rfl
@[simp] theorem State.updContainer_bindings (s : State) (c : Nat) (f : Container → Container) : (s.updContainer c f).bindings = s.bindings := rfl
@[simp] theorem State.updContainer_report (s : State) (c : Nat) (f : Container → Container) : (s.updContainer c f).report = s.report := rfl
@[simp] theorem State.updContainer_tuning (s : State) (c : Nat) (f : Container → Container) : (s.updContainer c f).tuning = s.tuning := rfl
@[simp] theorem State.updContainer_gateway (s : State) (c : Nat) (f : Container → Container) : (s.updContainer c f).gateway = s.gateway := rfl
@[simp] theorem State.updContainer_service (s : State) (c : Nat) (f : Container → Container) : (s.updContainer c f).service = s.service := rfl
@[simp] theorem State.updContainer_grant (s : State) (c : Nat) (f : Container → Container) : (s.updContainer c f).grant = s.grant := rfl

/-! #### changeImage -/

@[simp] theorem State.changeImage_pending (s : State) (c : Nat) (f : Outputs → Outputs) : (s.changeImage c f).pending = s.pending := rfl
@[simp] theorem State.changeImage_clock (s : State) (c : Nat) (f : Outputs → Outputs) : (s.changeImage c f).clock = s.clock := rfl
@[simp] theorem State.changeImage_mode (s : State) (c : Nat) (f : Outputs → Outputs) : (s.changeImage c f).mode = s.mode := rfl
@[simp] theorem State.changeImage_startKind (s : State) (c : Nat) (f : Outputs → Outputs) : (s.changeImage c f).startKind = s.startKind := rfl
@[simp] theorem State.changeImage_bus (s : State) (c : Nat) (f : Outputs → Outputs) : (s.changeImage c f).bus = s.bus := rfl
@[simp] theorem State.changeImage_directory (s : State) (c : Nat) (f : Outputs → Outputs) : (s.changeImage c f).directory = s.directory := rfl
@[simp] theorem State.changeImage_watch (s : State) (c : Nat) (f : Outputs → Outputs) : (s.changeImage c f).watch = s.watch := rfl
@[simp] theorem State.changeImage_waiting (s : State) (c : Nat) (f : Outputs → Outputs) : (s.changeImage c f).waiting = s.waiting := rfl
@[simp] theorem State.changeImage_collection (s : State) (c : Nat) (f : Outputs → Outputs) : (s.changeImage c f).collection = s.collection := rfl
@[simp] theorem State.changeImage_round (s : State) (c : Nat) (f : Outputs → Outputs) : (s.changeImage c f).round = s.round := rfl
@[simp] theorem State.changeImage_ops (s : State) (c : Nat) (f : Outputs → Outputs) : (s.changeImage c f).ops = s.ops := rfl
@[simp] theorem State.changeImage_actions (s : State) (c : Nat) (f : Outputs → Outputs) : (s.changeImage c f).actions = s.actions := rfl
@[simp] theorem State.changeImage_bindings (s : State) (c : Nat) (f : Outputs → Outputs) : (s.changeImage c f).bindings = s.bindings := rfl
@[simp] theorem State.changeImage_report (s : State) (c : Nat) (f : Outputs → Outputs) : (s.changeImage c f).report = s.report := rfl
@[simp] theorem State.changeImage_tuning (s : State) (c : Nat) (f : Outputs → Outputs) : (s.changeImage c f).tuning = s.tuning := rfl
@[simp] theorem State.changeImage_gateway (s : State) (c : Nat) (f : Outputs → Outputs) : (s.changeImage c f).gateway = s.gateway := rfl
@[simp] theorem State.changeImage_service (s : State) (c : Nat) (f : Outputs → Outputs) : (s.changeImage c f).service = s.service := rfl
@[simp] theorem State.changeImage_grant (s : State) (c : Nat) (f : Outputs → Outputs) : (s.changeImage c f).grant = s.grant := rfl

/-! #### updOp -/

@[simp] theorem State.updOp_pending (s : State) (c : Nat) (f : Operation → Operation) : (s.updOp c f).pending = s.pending := rfl
@[simp] theorem State.updOp_clock (s : State) (c : Nat) (f : Operation → Operation) : (s.updOp c f).clock = s.clock := rfl
@[simp] theorem State.updOp_mode (s : State) (c : Nat) (f : Operation → Operation) : (s.updOp c f).mode = s.mode := rfl
@[simp] theorem State.updOp_startKind (s : State) (c : Nat) (f : Operation → Operation) : (s.updOp c f).startKind = s.startKind := rfl
@[simp] theorem State.updOp_stations (s : State) (c : Nat) (f : Operation → Operation) : (s.updOp c f).stations = s.stations := rfl
@[simp] theorem State.updOp_bus (s : State) (c : Nat) (f : Operation → Operation) : (s.updOp c f).bus = s.bus := rfl
@[simp] theorem State.updOp_directory (s : State) (c : Nat) (f : Operation → Operation) : (s.updOp c f).directory = s.directory := rfl
@[simp] theorem State.updOp_watch (s : State) (c : Nat) (f : Operation → Operation) : (s.updOp c f).watch = s.watch := rfl
@[simp] theorem State.updOp_waiting (s : State) (c : Nat) (f : Operation → Operation) : (s.updOp c f).waiting = s.waiting := rfl
@[simp] theorem State.updOp_collection (s : State) (c : Nat) (f : Operation → Operation) : (s.updOp c f).collection = s.collection := rfl
@[simp] theorem State.updOp_round (s : State) (c : Nat) (f : Operation → Operation) : (s.updOp c f).round = s.round := rfl
@[simp] theorem State.updOp_actions (s : State) (c : Nat) (f : Operation → Operation) : (s.updOp c f).actions = s.actions := rfl
@[simp] theorem State.updOp_bindings (s : State) (c : Nat) (f : Operation → Operation) : (s.updOp c f).bindings = s.bindings := rfl
@[simp] theorem State.updOp_report (s : State) (c : Nat) (f : Operation → Operation) : (s.updOp c f).report = s.report := rfl
@[simp] theorem State.updOp_tuning (s : State) (c : Nat) (f : Operation → Operation) : (s.updOp c f).tuning = s.tuning := rfl
@[simp] theorem State.updOp_gateway (s : State) (c : Nat) (f : Operation → Operation) : (s.updOp c f).gateway = s.gateway := rfl
@[simp] theorem State.updOp_service (s : State) (c : Nat) (f : Operation → Operation) : (s.updOp c f).service = s.service := rfl
@[simp] theorem State.updOp_grant (s : State) (c : Nat) (f : Operation → Operation) : (s.updOp c f).grant = s.grant := rfl

/-! #### updDirectory -/

@[simp] theorem State.updDirectory_pending (s : State) (f : Directory → Directory) : (s.updDirectory f).pending = s.pending := rfl
@[simp] theorem State.updDirectory_clock (s : State) (f : Directory → Directory) : (s.updDirectory f).clock = s.clock := rfl
@[simp] theorem State.updDirectory_mode (s : State) (f : Directory → Directory) : (s.updDirectory f).mode = s.mode := rfl
@[simp] theorem State.updDirectory_startKind (s : State) (f : Directory → Directory) : (s.updDirectory f).startKind = s.startKind := rfl
@[simp] theorem State.updDirectory_stations (s : State) (f : Directory → Directory) : (s.updDirectory f).stations = s.stations := rfl
@[simp] theorem State.updDirectory_bus (s : State) (f : Directory → Directory) : (s.updDirectory f).bus = s.bus := rfl
@[simp] theorem State.updDirectory_watch (s : State) (f : Directory → Directory) : (s.updDirectory f).watch = s.watch := rfl
@[simp] theorem State.updDirectory_waiting (s : State) (f : Directory → Directory) : (s.updDirectory f).waiting = s.waiting := rfl
@[simp] theorem State.updDirectory_collection (s : State) (f : Directory → Directory) : (s.updDirectory f).collection = s.collection := rfl
@[simp] theorem State.updDirectory_round (s : State) (f : Directory → Directory) : (s.updDirectory f).round = s.round := rfl
@[simp] theorem State.updDirectory_ops (s : State) (f : Directory → Directory) : (s.updDirectory f).ops = s.ops := rfl
@[simp] theorem State.updDirectory_actions (s : State) (f : Directory → Directory) : (s.updDirectory f).actions = s.actions := rfl
@[simp] theorem State.updDirectory_bindings (s : State) (f : Directory → Directory) : (s.updDirectory f).bindings = s.bindings := rfl
@[simp] theorem State.updDirectory_report (s : State) (f : Directory → Directory) : (s.updDirectory f).report = s.report := rfl
@[simp] theorem State.updDirectory_tuning (s : State) (f : Directory → Directory) : (s.updDirectory f).tuning = s.tuning := rfl
@[simp] theorem State.updDirectory_gateway (s : State) (f : Directory → Directory) : (s.updDirectory f).gateway = s.gateway := rfl
@[simp] theorem State.updDirectory_service (s : State) (f : Directory → Directory) : (s.updDirectory f).service = s.service := rfl
@[simp] theorem State.updDirectory_grant (s : State) (f : Directory → Directory) : (s.updDirectory f).grant = s.grant := rfl

/-! #### updCard -/

@[simp] theorem State.updCard_pending (s : State) (id : CardId) (f : Card → Card) : (s.updCard id f).pending = s.pending := rfl
@[simp] theorem State.updCard_clock (s : State) (id : CardId) (f : Card → Card) : (s.updCard id f).clock = s.clock := rfl
@[simp] theorem State.updCard_mode (s : State) (id : CardId) (f : Card → Card) : (s.updCard id f).mode = s.mode := rfl
@[simp] theorem State.updCard_startKind (s : State) (id : CardId) (f : Card → Card) : (s.updCard id f).startKind = s.startKind := rfl
@[simp] theorem State.updCard_stations (s : State) (id : CardId) (f : Card → Card) : (s.updCard id f).stations = s.stations := rfl
@[simp] theorem State.updCard_bus (s : State) (id : CardId) (f : Card → Card) : (s.updCard id f).bus = s.bus := rfl
@[simp] theorem State.updCard_watch (s : State) (id : CardId) (f : Card → Card) : (s.updCard id f).watch = s.watch := rfl
@[simp] theorem State.updCard_waiting (s : State) (id : CardId) (f : Card → Card) : (s.updCard id f).waiting = s.waiting := rfl
@[simp] theorem State.updCard_collection (s : State) (id : CardId) (f : Card → Card) : (s.updCard id f).collection = s.collection := rfl
@[simp] theorem State.updCard_round (s : State) (id : CardId) (f : Card → Card) : (s.updCard id f).round = s.round := rfl
@[simp] theorem State.updCard_ops (s : State) (id : CardId) (f : Card → Card) : (s.updCard id f).ops = s.ops := rfl
@[simp] theorem State.updCard_actions (s : State) (id : CardId) (f : Card → Card) : (s.updCard id f).actions = s.actions := rfl
@[simp] theorem State.updCard_bindings (s : State) (id : CardId) (f : Card → Card) : (s.updCard id f).bindings = s.bindings := rfl
@[simp] theorem State.updCard_report (s : State) (id : CardId) (f : Card → Card) : (s.updCard id f).report = s.report := rfl
@[simp] theorem State.updCard_tuning (s : State) (id : CardId) (f : Card → Card) : (s.updCard id f).tuning = s.tuning := rfl
@[simp] theorem State.updCard_gateway (s : State) (id : CardId) (f : Card → Card) : (s.updCard id f).gateway = s.gateway := rfl
@[simp] theorem State.updCard_service (s : State) (id : CardId) (f : Card → Card) : (s.updCard id f).service = s.service := rfl
@[simp] theorem State.updCard_grant (s : State) (id : CardId) (f : Card → Card) : (s.updCard id f).grant = s.grant := rfl

/-! #### updCollection -/

@[simp] theorem State.updCollection_pending (s : State) (f : List Entry → List Entry) : (s.updCollection f).pending = s.pending := rfl
@[simp] theorem State.updCollection_clock (s : State) (f : List Entry → List Entry) : (s.updCollection f).clock = s.clock := rfl
@[simp] theorem State.updCollection_mode (s : State) (f : List Entry → List Entry) : (s.updCollection f).mode = s.mode := rfl
@[simp] theorem State.updCollection_startKind (s : State) (f : List Entry → List Entry) : (s.updCollection f).startKind = s.startKind := rfl
@[simp] theorem State.updCollection_stations (s : State) (f : List Entry → List Entry) : (s.updCollection f).stations = s.stations := rfl
@[simp] theorem State.updCollection_bus (s : State) (f : List Entry → List Entry) : (s.updCollection f).bus = s.bus := rfl
@[simp] theorem State.updCollection_directory (s : State) (f : List Entry → List Entry) : (s.updCollection f).directory = s.directory := rfl
@[simp] theorem State.updCollection_watch (s : State) (f : List Entry → List Entry) : (s.updCollection f).watch = s.watch := rfl
@[simp] theorem State.updCollection_waiting (s : State) (f : List Entry → List Entry) : (s.updCollection f).waiting = s.waiting := rfl
@[simp] theorem State.updCollection_round (s : State) (f : List Entry → List Entry) : (s.updCollection f).round = s.round := rfl
@[simp] theorem State.updCollection_ops (s : State) (f : List Entry → List Entry) : (s.updCollection f).ops = s.ops := rfl
@[simp] theorem State.updCollection_actions (s : State) (f : List Entry → List Entry) : (s.updCollection f).actions = s.actions := rfl
@[simp] theorem State.updCollection_bindings (s : State) (f : List Entry → List Entry) : (s.updCollection f).bindings = s.bindings := rfl
@[simp] theorem State.updCollection_report (s : State) (f : List Entry → List Entry) : (s.updCollection f).report = s.report := rfl
@[simp] theorem State.updCollection_tuning (s : State) (f : List Entry → List Entry) : (s.updCollection f).tuning = s.tuning := rfl
@[simp] theorem State.updCollection_gateway (s : State) (f : List Entry → List Entry) : (s.updCollection f).gateway = s.gateway := rfl
@[simp] theorem State.updCollection_service (s : State) (f : List Entry → List Entry) : (s.updCollection f).service = s.service := rfl
@[simp] theorem State.updCollection_grant (s : State) (f : List Entry → List Entry) : (s.updCollection f).grant = s.grant := rfl

/-! #### place -/

@[simp] theorem State.place_pending (s : State) (e : Entry) : (s.place e).pending = s.pending := rfl
@[simp] theorem State.place_clock (s : State) (e : Entry) : (s.place e).clock = s.clock := rfl
@[simp] theorem State.place_mode (s : State) (e : Entry) : (s.place e).mode = s.mode := rfl
@[simp] theorem State.place_startKind (s : State) (e : Entry) : (s.place e).startKind = s.startKind := rfl
@[simp] theorem State.place_stations (s : State) (e : Entry) : (s.place e).stations = s.stations := rfl
@[simp] theorem State.place_bus (s : State) (e : Entry) : (s.place e).bus = s.bus := rfl
@[simp] theorem State.place_directory (s : State) (e : Entry) : (s.place e).directory = s.directory := rfl
@[simp] theorem State.place_watch (s : State) (e : Entry) : (s.place e).watch = s.watch := rfl
@[simp] theorem State.place_waiting (s : State) (e : Entry) : (s.place e).waiting = s.waiting := rfl
@[simp] theorem State.place_round (s : State) (e : Entry) : (s.place e).round = s.round := rfl
@[simp] theorem State.place_ops (s : State) (e : Entry) : (s.place e).ops = s.ops := rfl
@[simp] theorem State.place_actions (s : State) (e : Entry) : (s.place e).actions = s.actions := rfl
@[simp] theorem State.place_bindings (s : State) (e : Entry) : (s.place e).bindings = s.bindings := rfl
@[simp] theorem State.place_report (s : State) (e : Entry) : (s.place e).report = s.report := rfl
@[simp] theorem State.place_tuning (s : State) (e : Entry) : (s.place e).tuning = s.tuning := rfl
@[simp] theorem State.place_gateway (s : State) (e : Entry) : (s.place e).gateway = s.gateway := rfl
@[simp] theorem State.place_service (s : State) (e : Entry) : (s.place e).service = s.service := rfl
@[simp] theorem State.place_grant (s : State) (e : Entry) : (s.place e).grant = s.grant := rfl

/-! #### unlist -/

@[simp] theorem State.unlist_pending (s : State) (c : Nat) : (s.unlist c).pending = s.pending := rfl
@[simp] theorem State.unlist_clock (s : State) (c : Nat) : (s.unlist c).clock = s.clock := rfl
@[simp] theorem State.unlist_mode (s : State) (c : Nat) : (s.unlist c).mode = s.mode := rfl
@[simp] theorem State.unlist_startKind (s : State) (c : Nat) : (s.unlist c).startKind = s.startKind := rfl
@[simp] theorem State.unlist_stations (s : State) (c : Nat) : (s.unlist c).stations = s.stations := rfl
@[simp] theorem State.unlist_bus (s : State) (c : Nat) : (s.unlist c).bus = s.bus := rfl
@[simp] theorem State.unlist_directory (s : State) (c : Nat) : (s.unlist c).directory = s.directory := rfl
@[simp] theorem State.unlist_watch (s : State) (c : Nat) : (s.unlist c).watch = s.watch := rfl
@[simp] theorem State.unlist_waiting (s : State) (c : Nat) : (s.unlist c).waiting = s.waiting := rfl
@[simp] theorem State.unlist_round (s : State) (c : Nat) : (s.unlist c).round = s.round := rfl
@[simp] theorem State.unlist_ops (s : State) (c : Nat) : (s.unlist c).ops = s.ops := rfl
@[simp] theorem State.unlist_actions (s : State) (c : Nat) : (s.unlist c).actions = s.actions := rfl
@[simp] theorem State.unlist_bindings (s : State) (c : Nat) : (s.unlist c).bindings = s.bindings := rfl
@[simp] theorem State.unlist_report (s : State) (c : Nat) : (s.unlist c).report = s.report := rfl
@[simp] theorem State.unlist_tuning (s : State) (c : Nat) : (s.unlist c).tuning = s.tuning := rfl
@[simp] theorem State.unlist_gateway (s : State) (c : Nat) : (s.unlist c).gateway = s.gateway := rfl
@[simp] theorem State.unlist_service (s : State) (c : Nat) : (s.unlist c).service = s.service := rfl
@[simp] theorem State.unlist_grant (s : State) (c : Nat) : (s.unlist c).grant = s.grant := rfl

/-! #### countClaim -/

@[simp] theorem State.countClaim_pending (s : State) : (s.countClaim).pending = s.pending := rfl
@[simp] theorem State.countClaim_clock (s : State) : (s.countClaim).clock = s.clock := rfl
@[simp] theorem State.countClaim_mode (s : State) : (s.countClaim).mode = s.mode := rfl
@[simp] theorem State.countClaim_startKind (s : State) : (s.countClaim).startKind = s.startKind := rfl
@[simp] theorem State.countClaim_stations (s : State) : (s.countClaim).stations = s.stations := rfl
@[simp] theorem State.countClaim_bus (s : State) : (s.countClaim).bus = s.bus := rfl
@[simp] theorem State.countClaim_directory (s : State) : (s.countClaim).directory = s.directory := rfl
@[simp] theorem State.countClaim_watch (s : State) : (s.countClaim).watch = s.watch := rfl
@[simp] theorem State.countClaim_waiting (s : State) : (s.countClaim).waiting = s.waiting := rfl
@[simp] theorem State.countClaim_collection (s : State) : (s.countClaim).collection = s.collection := rfl
@[simp] theorem State.countClaim_ops (s : State) : (s.countClaim).ops = s.ops := rfl
@[simp] theorem State.countClaim_actions (s : State) : (s.countClaim).actions = s.actions := rfl
@[simp] theorem State.countClaim_bindings (s : State) : (s.countClaim).bindings = s.bindings := rfl
@[simp] theorem State.countClaim_report (s : State) : (s.countClaim).report = s.report := rfl
@[simp] theorem State.countClaim_tuning (s : State) : (s.countClaim).tuning = s.tuning := rfl
@[simp] theorem State.countClaim_gateway (s : State) : (s.countClaim).gateway = s.gateway := rfl
@[simp] theorem State.countClaim_service (s : State) : (s.countClaim).service = s.service := rfl
@[simp] theorem State.countClaim_grant (s : State) : (s.countClaim).grant = s.grant := rfl

/-! #### addStarted -/

@[simp] theorem State.addStarted_pending (s : State) (c : Nat) : (s.addStarted c).pending = s.pending := rfl
@[simp] theorem State.addStarted_clock (s : State) (c : Nat) : (s.addStarted c).clock = s.clock := rfl
@[simp] theorem State.addStarted_mode (s : State) (c : Nat) : (s.addStarted c).mode = s.mode := rfl
@[simp] theorem State.addStarted_startKind (s : State) (c : Nat) : (s.addStarted c).startKind = s.startKind := rfl
@[simp] theorem State.addStarted_stations (s : State) (c : Nat) : (s.addStarted c).stations = s.stations := rfl
@[simp] theorem State.addStarted_bus (s : State) (c : Nat) : (s.addStarted c).bus = s.bus := rfl
@[simp] theorem State.addStarted_directory (s : State) (c : Nat) : (s.addStarted c).directory = s.directory := rfl
@[simp] theorem State.addStarted_watch (s : State) (c : Nat) : (s.addStarted c).watch = s.watch := rfl
@[simp] theorem State.addStarted_waiting (s : State) (c : Nat) : (s.addStarted c).waiting = s.waiting := rfl
@[simp] theorem State.addStarted_collection (s : State) (c : Nat) : (s.addStarted c).collection = s.collection := rfl
@[simp] theorem State.addStarted_ops (s : State) (c : Nat) : (s.addStarted c).ops = s.ops := rfl
@[simp] theorem State.addStarted_actions (s : State) (c : Nat) : (s.addStarted c).actions = s.actions := rfl
@[simp] theorem State.addStarted_bindings (s : State) (c : Nat) : (s.addStarted c).bindings = s.bindings := rfl
@[simp] theorem State.addStarted_report (s : State) (c : Nat) : (s.addStarted c).report = s.report := rfl
@[simp] theorem State.addStarted_tuning (s : State) (c : Nat) : (s.addStarted c).tuning = s.tuning := rfl
@[simp] theorem State.addStarted_gateway (s : State) (c : Nat) : (s.addStarted c).gateway = s.gateway := rfl
@[simp] theorem State.addStarted_service (s : State) (c : Nat) : (s.addStarted c).service = s.service := rfl
@[simp] theorem State.addStarted_grant (s : State) (c : Nat) : (s.addStarted c).grant = s.grant := rfl

/-! #### freeOperation -/

@[simp] theorem State.freeOperation_pending (s : State) (c n : Nat) : (s.freeOperation c n).pending = s.pending := rfl
@[simp] theorem State.freeOperation_clock (s : State) (c n : Nat) : (s.freeOperation c n).clock = s.clock := rfl
@[simp] theorem State.freeOperation_mode (s : State) (c n : Nat) : (s.freeOperation c n).mode = s.mode := rfl
@[simp] theorem State.freeOperation_startKind (s : State) (c n : Nat) : (s.freeOperation c n).startKind = s.startKind := rfl
@[simp] theorem State.freeOperation_stations (s : State) (c n : Nat) : (s.freeOperation c n).stations = s.stations := rfl
@[simp] theorem State.freeOperation_bus (s : State) (c n : Nat) : (s.freeOperation c n).bus = s.bus := rfl
@[simp] theorem State.freeOperation_directory (s : State) (c n : Nat) : (s.freeOperation c n).directory = s.directory := rfl
@[simp] theorem State.freeOperation_watch (s : State) (c n : Nat) : (s.freeOperation c n).watch = s.watch := rfl
@[simp] theorem State.freeOperation_waiting (s : State) (c n : Nat) : (s.freeOperation c n).waiting = s.waiting := rfl
@[simp] theorem State.freeOperation_collection (s : State) (c n : Nat) : (s.freeOperation c n).collection = s.collection := rfl
@[simp] theorem State.freeOperation_round (s : State) (c n : Nat) : (s.freeOperation c n).round = s.round := rfl
@[simp] theorem State.freeOperation_actions (s : State) (c n : Nat) : (s.freeOperation c n).actions = s.actions := rfl
@[simp] theorem State.freeOperation_bindings (s : State) (c n : Nat) : (s.freeOperation c n).bindings = s.bindings := rfl
@[simp] theorem State.freeOperation_report (s : State) (c n : Nat) : (s.freeOperation c n).report = s.report := rfl
@[simp] theorem State.freeOperation_tuning (s : State) (c n : Nat) : (s.freeOperation c n).tuning = s.tuning := rfl
@[simp] theorem State.freeOperation_gateway (s : State) (c n : Nat) : (s.freeOperation c n).gateway = s.gateway := rfl
@[simp] theorem State.freeOperation_service (s : State) (c n : Nat) : (s.freeOperation c n).service = s.service := rfl
@[simp] theorem State.freeOperation_grant (s : State) (c n : Nat) : (s.freeOperation c n).grant = s.grant := rfl

/-! #### postResult -/

@[simp] theorem State.postResult_pending (s : State) (e : Event) (r : ActionResult) (m : BitVec 4) : (s.postResult e r m).pending = s.pending := rfl
@[simp] theorem State.postResult_clock (s : State) (e : Event) (r : ActionResult) (m : BitVec 4) : (s.postResult e r m).clock = s.clock := rfl
@[simp] theorem State.postResult_mode (s : State) (e : Event) (r : ActionResult) (m : BitVec 4) : (s.postResult e r m).mode = s.mode := rfl
@[simp] theorem State.postResult_startKind (s : State) (e : Event) (r : ActionResult) (m : BitVec 4) : (s.postResult e r m).startKind = s.startKind := rfl
@[simp] theorem State.postResult_stations (s : State) (e : Event) (r : ActionResult) (m : BitVec 4) : (s.postResult e r m).stations = s.stations := rfl
@[simp] theorem State.postResult_bus (s : State) (e : Event) (r : ActionResult) (m : BitVec 4) : (s.postResult e r m).bus = s.bus := rfl
@[simp] theorem State.postResult_directory (s : State) (e : Event) (r : ActionResult) (m : BitVec 4) : (s.postResult e r m).directory = s.directory := rfl
@[simp] theorem State.postResult_watch (s : State) (e : Event) (r : ActionResult) (m : BitVec 4) : (s.postResult e r m).watch = s.watch := rfl
@[simp] theorem State.postResult_waiting (s : State) (e : Event) (r : ActionResult) (m : BitVec 4) : (s.postResult e r m).waiting = s.waiting := rfl
@[simp] theorem State.postResult_collection (s : State) (e : Event) (r : ActionResult) (m : BitVec 4) : (s.postResult e r m).collection = s.collection := rfl
@[simp] theorem State.postResult_round (s : State) (e : Event) (r : ActionResult) (m : BitVec 4) : (s.postResult e r m).round = s.round := rfl
@[simp] theorem State.postResult_ops (s : State) (e : Event) (r : ActionResult) (m : BitVec 4) : (s.postResult e r m).ops = s.ops := rfl
@[simp] theorem State.postResult_actions (s : State) (e : Event) (r : ActionResult) (m : BitVec 4) : (s.postResult e r m).actions = s.actions := rfl
@[simp] theorem State.postResult_bindings (s : State) (e : Event) (r : ActionResult) (m : BitVec 4) : (s.postResult e r m).bindings = s.bindings := rfl
@[simp] theorem State.postResult_tuning (s : State) (e : Event) (r : ActionResult) (m : BitVec 4) : (s.postResult e r m).tuning = s.tuning := rfl
@[simp] theorem State.postResult_gateway (s : State) (e : Event) (r : ActionResult) (m : BitVec 4) : (s.postResult e r m).gateway = s.gateway := rfl
@[simp] theorem State.postResult_service (s : State) (e : Event) (r : ActionResult) (m : BitVec 4) : (s.postResult e r m).service = s.service := rfl
@[simp] theorem State.postResult_grant (s : State) (e : Event) (r : ActionResult) (m : BitVec 4) : (s.postResult e r m).grant = s.grant := rfl

/-! #### updGrant -/

@[simp] theorem State.updGrant_pending (s : State) (f : Grant → Grant) : (s.updGrant f).pending = s.pending := rfl
@[simp] theorem State.updGrant_clock (s : State) (f : Grant → Grant) : (s.updGrant f).clock = s.clock := rfl
@[simp] theorem State.updGrant_mode (s : State) (f : Grant → Grant) : (s.updGrant f).mode = s.mode := rfl
@[simp] theorem State.updGrant_startKind (s : State) (f : Grant → Grant) : (s.updGrant f).startKind = s.startKind := rfl
@[simp] theorem State.updGrant_stations (s : State) (f : Grant → Grant) : (s.updGrant f).stations = s.stations := rfl
@[simp] theorem State.updGrant_bus (s : State) (f : Grant → Grant) : (s.updGrant f).bus = s.bus := rfl
@[simp] theorem State.updGrant_directory (s : State) (f : Grant → Grant) : (s.updGrant f).directory = s.directory := rfl
@[simp] theorem State.updGrant_watch (s : State) (f : Grant → Grant) : (s.updGrant f).watch = s.watch := rfl
@[simp] theorem State.updGrant_waiting (s : State) (f : Grant → Grant) : (s.updGrant f).waiting = s.waiting := rfl
@[simp] theorem State.updGrant_collection (s : State) (f : Grant → Grant) : (s.updGrant f).collection = s.collection := rfl
@[simp] theorem State.updGrant_round (s : State) (f : Grant → Grant) : (s.updGrant f).round = s.round := rfl
@[simp] theorem State.updGrant_ops (s : State) (f : Grant → Grant) : (s.updGrant f).ops = s.ops := rfl
@[simp] theorem State.updGrant_actions (s : State) (f : Grant → Grant) : (s.updGrant f).actions = s.actions := rfl
@[simp] theorem State.updGrant_bindings (s : State) (f : Grant → Grant) : (s.updGrant f).bindings = s.bindings := rfl
@[simp] theorem State.updGrant_report (s : State) (f : Grant → Grant) : (s.updGrant f).report = s.report := rfl
@[simp] theorem State.updGrant_tuning (s : State) (f : Grant → Grant) : (s.updGrant f).tuning = s.tuning := rfl
@[simp] theorem State.updGrant_gateway (s : State) (f : Grant → Grant) : (s.updGrant f).gateway = s.gateway := rfl
@[simp] theorem State.updGrant_service (s : State) (f : Grant → Grant) : (s.updGrant f).service = s.service := rfl

/-! #### endVisit -/

@[simp] theorem State.endVisit_pending (s : State) : (s.endVisit).pending = s.pending := rfl
@[simp] theorem State.endVisit_clock (s : State) : (s.endVisit).clock = s.clock := rfl
@[simp] theorem State.endVisit_mode (s : State) : (s.endVisit).mode = s.mode := rfl
@[simp] theorem State.endVisit_startKind (s : State) : (s.endVisit).startKind = s.startKind := rfl
@[simp] theorem State.endVisit_stations (s : State) : (s.endVisit).stations = s.stations := rfl
@[simp] theorem State.endVisit_directory (s : State) : (s.endVisit).directory = s.directory := rfl
@[simp] theorem State.endVisit_watch (s : State) : (s.endVisit).watch = s.watch := rfl
@[simp] theorem State.endVisit_waiting (s : State) : (s.endVisit).waiting = s.waiting := rfl
@[simp] theorem State.endVisit_collection (s : State) : (s.endVisit).collection = s.collection := rfl
@[simp] theorem State.endVisit_round (s : State) : (s.endVisit).round = s.round := rfl
@[simp] theorem State.endVisit_ops (s : State) : (s.endVisit).ops = s.ops := rfl
@[simp] theorem State.endVisit_actions (s : State) : (s.endVisit).actions = s.actions := rfl
@[simp] theorem State.endVisit_bindings (s : State) : (s.endVisit).bindings = s.bindings := rfl
@[simp] theorem State.endVisit_report (s : State) : (s.endVisit).report = s.report := rfl
@[simp] theorem State.endVisit_tuning (s : State) : (s.endVisit).tuning = s.tuning := rfl
@[simp] theorem State.endVisit_gateway (s : State) : (s.endVisit).gateway = s.gateway := rfl
@[simp] theorem State.endVisit_service (s : State) : (s.endVisit).service = s.service := rfl
@[simp] theorem State.endVisit_grant (s : State) : (s.endVisit).grant = s.grant := rfl

/-! #### updPort -/

@[simp] theorem State.updPort_pending (s : State) (p : Port) (f : PortState → PortState) : (s.updPort p f).pending = s.pending := by cases p <;> rfl
@[simp] theorem State.updPort_clock (s : State) (p : Port) (f : PortState → PortState) : (s.updPort p f).clock = s.clock := by cases p <;> rfl
@[simp] theorem State.updPort_mode (s : State) (p : Port) (f : PortState → PortState) : (s.updPort p f).mode = s.mode := by cases p <;> rfl
@[simp] theorem State.updPort_startKind (s : State) (p : Port) (f : PortState → PortState) : (s.updPort p f).startKind = s.startKind := by cases p <;> rfl
@[simp] theorem State.updPort_stations (s : State) (p : Port) (f : PortState → PortState) : (s.updPort p f).stations = s.stations := by cases p <;> rfl
@[simp] theorem State.updPort_bus (s : State) (p : Port) (f : PortState → PortState) : (s.updPort p f).bus = s.bus := by cases p <;> rfl
@[simp] theorem State.updPort_directory (s : State) (p : Port) (f : PortState → PortState) : (s.updPort p f).directory = s.directory := by cases p <;> rfl
@[simp] theorem State.updPort_watch (s : State) (p : Port) (f : PortState → PortState) : (s.updPort p f).watch = s.watch := by cases p <;> rfl
@[simp] theorem State.updPort_waiting (s : State) (p : Port) (f : PortState → PortState) : (s.updPort p f).waiting = s.waiting := by cases p <;> rfl
@[simp] theorem State.updPort_collection (s : State) (p : Port) (f : PortState → PortState) : (s.updPort p f).collection = s.collection := by cases p <;> rfl
@[simp] theorem State.updPort_round (s : State) (p : Port) (f : PortState → PortState) : (s.updPort p f).round = s.round := by cases p <;> rfl
@[simp] theorem State.updPort_ops (s : State) (p : Port) (f : PortState → PortState) : (s.updPort p f).ops = s.ops := by cases p <;> rfl
@[simp] theorem State.updPort_actions (s : State) (p : Port) (f : PortState → PortState) : (s.updPort p f).actions = s.actions := by cases p <;> rfl
@[simp] theorem State.updPort_bindings (s : State) (p : Port) (f : PortState → PortState) : (s.updPort p f).bindings = s.bindings := by cases p <;> rfl
@[simp] theorem State.updPort_report (s : State) (p : Port) (f : PortState → PortState) : (s.updPort p f).report = s.report := by cases p <;> rfl
@[simp] theorem State.updPort_tuning (s : State) (p : Port) (f : PortState → PortState) : (s.updPort p f).tuning = s.tuning := by cases p <;> rfl
@[simp] theorem State.updPort_grant (s : State) (p : Port) (f : PortState → PortState) : (s.updPort p f).grant = s.grant := by cases p <;> rfl

end Sys2Proof.Machine
end

