-- ==== Sys2Proof/Laws/Lookup.lean ====
section
/-!
SUPPORT. What reading a part of the state gives after an update of that part: stations, containers, operations, list entries, cards, ports, a
cursor, the estimate.
-/
namespace Sys2Proof.Machine

/-! ### Stations and containers -/

theorem State.station?_updStation (s : State) (t u : Nat) (f : Station → Station) :
    (s.updStation t f).station? u = if u = t then (s.station? t).map f else s.station? u := by
  unfold State.station? State.updStation
  simp only [List.getElem?_modify]
  by_cases h : t = u
  · subst h
    cases s.stations[t]? with
    | none => simp
    | some o => cases o <;> simp
  · have h' : ¬u = t := fun e => h e.symm
    simp [h, h']

theorem State.station?_setStation (s : State) (t u : Nat) (o : Option Station) (ht : t < s.stations.length) :
    (s.setStation t o).station? u = if u = t then o else s.station? u := by
  unfold State.station? State.setStation
  by_cases h : t = u
  · subst h; simp [ht]
  · have h' : ¬u = t := fun e => h e.symm
    simp [h, h']

theorem State.container?_updContainer (s : State) (c d : Nat) (f : Container → Container) :
    (s.updContainer c f).container? d = if d = c then (s.container? c).map f else s.container? d := by
  unfold State.container? State.updContainer
  rw [State.station?_updStation]
  by_cases h4 : d / 4 = c / 4
  · rw [if_pos h4, h4]
    cases s.station? (c / 4) with
    | none => by_cases h : d = c <;> simp [h]
    | some st =>
      by_cases h : d = c
      · subst h; simp
      · have hm : ¬c % 4 = d % 4 := by omega
        simp [h, hm]
  · have h : ¬d = c := fun e => h4 (by rw [e])
    rw [if_neg h4, if_neg h]

/-- A change of a station that keeps its slots changes no container. -/
theorem State.container?_updStation (s : State) (t d : Nat) (f : Station → Station) (hf : ∀ st, (f st).slots = st.slots) :
    (s.updStation t f).container? d = s.container? d := by
  unfold State.container?
  rw [State.station?_updStation]
  by_cases h4 : d / 4 = t
  · subst h4; cases h : s.station? (d / 4) <;> simp [hf]
  · simp [h4]

theorem State.container?_changeImage (s : State) (c d : Nat) (f : Outputs → Outputs) :
    (s.changeImage c f).container? d =
      if d = c then (s.container? c).map fun k => { k with outputs := f k.outputs } else s.container? d := by
  unfold State.container? State.changeImage
  rw [State.station?_updStation]
  by_cases h4 : d / 4 = c / 4
  · rw [if_pos h4, h4]
    cases s.station? (c / 4) with
    | none => by_cases h : d = c <;> simp [h]
    | some st =>
      simp only [Option.map_some]
      unfold Station.changeImage
      by_cases h : d = c
      · subst h
        cases hk : st.slots[d % 4]? with
        | none => simp [hk]
        | some k =>
          by_cases he : f k.outputs = k.outputs
          · simp [he, hk]
          · simp [he, hk]
      · have hm : ¬c % 4 = d % 4 := by omega
        cases hk : st.slots[c % 4]? with
        | none => simp [h]
        | some k =>
          by_cases he : f k.outputs = k.outputs
          · simp [he, h]
          · simp [he, h, hm]
  · have h : ¬d = c := fun e => h4 (by rw [e])
    rw [if_neg h4, if_neg h]

/-- Two states with the same stations have the same containers. -/
theorem State.container?_congr {s t : State} (h : t.stations = s.stations) (c : Nat) : t.container? c = s.container? c := by
  unfold State.container? State.station?; rw [h]

/-- Two states with the same stations have the same station records. -/
theorem State.station?_congr {s t : State} (h : t.stations = s.stations) (c : Nat) : t.station? c = s.station? c := by
  unfold State.station?; rw [h]

/-! ### Operations -/

/-- Two states with the same slots have the same operations. -/
theorem State.opOf_congr {s t : State} (h : t.ops = s.ops) (c : Nat) : t.opOf c = s.opOf c := by unfold State.opOf; rw [h]

theorem State.opOf_container {s : State} {c : Nat} {op : Operation} (h : s.opOf c = some op) : op.container = c := by
  have := List.find?_some h
  simpa using this

/-- An update of one container's operation that keeps its container number. -/
theorem State.opOf_updOp (s : State) (c d : Nat) (f : Operation → Operation) (hf : ∀ op, (f op).container = op.container) :
    (s.updOp c f).opOf d = if d = c then (s.opOf c).map f else s.opOf d := by
  unfold State.opOf State.updOp
  simp only
  have key : (s.ops.map (Option.map fun op => if op.container == c then f op else op)).filterMap id =
      (s.ops.filterMap id).map fun op => if op.container == c then f op else op := by
    induction s.ops with
    | nil => rfl
    | cons o os ih => cases o <;> simp_all
  rw [key]
  induction s.ops.filterMap id with
  | nil => by_cases h : d = c <;> simp [h]
  | cons op os ih =>
    have hc : ((if op.container == c then f op else op).container == d) = (op.container == d) := by split <;> simp [hf]
    simp only [List.map_cons, List.find?_cons]
    rw [hc]
    by_cases hd : op.container = d
    · subst hd
      by_cases h : op.container = c <;> simp [h]
    · have hd' : (op.container == d) = false := by simpa using hd
      rw [hd']
      by_cases h : d = c
      · subst h; simpa [hd'] using ih
      · simpa [h] using ih

/-! ### The collection list -/

theorem find?_insertEntry (e : Entry) (d : Nat) (l : List Entry) (hl : ∀ x ∈ l, x.container ≠ e.container) :
    (insertEntry e l).find? (fun x => x.container == d) =
      if d = e.container then some e else l.find? fun x => x.container == d := by
  induction l with
  | nil =>
    by_cases h : d = e.container
    · simp [insertEntry, h]
    · simp [insertEntry, h, Ne.symm h]
  | cons x xs ih =>
    have hx := hl x (by simp)
    have ih := ih fun y hy => hl y (by simp [hy])
    unfold insertEntry
    by_cases hb : e.before x
    · rw [if_pos hb]
      by_cases h : d = e.container
      · simp [h]
      · have : (e.container == d) = false := by simpa using Ne.symm h
        rw [List.find?_cons, this, if_neg h]
    · rw [if_neg hb, List.find?_cons]
      by_cases hd : x.container = d
      · have : d ≠ e.container := hd ▸ hx
        simp [hd, this]
      · have hd' : (x.container == d) = false := by simpa using hd
        rw [hd', ih, List.find?_cons, hd']

theorem State.entry?_place (s : State) (e : Entry) (d : Nat) :
    (s.place e).entry? d = if d = e.container then some e else s.entry? d := by
  unfold State.entry? State.place State.updCollection placeEntry
  simp only
  rw [find?_insertEntry]
  · by_cases h : d = e.container
    · simp [h]
    · rw [if_neg h, if_neg h, List.find?_filter]
      congr 1
      funext x
      by_cases hx : x.container = d
      · simp [hx, h]
      · simp [hx]
  · intro x hx
    simpa using (List.mem_filter.1 hx).2

theorem State.entry?_unlist (s : State) (c d : Nat) : (s.unlist c).entry? d = if d = c then none else s.entry? d := by
  unfold State.entry? State.unlist State.updCollection
  simp only [List.find?_filter]
  by_cases h : d = c
  · subst h
    simp
  · rw [if_neg h]
    congr 1
    funext x
    by_cases hx : x.container = d
    · simp [hx, h]
    · simp [hx]

/-- Two states with the same list have the same entries. -/
theorem State.entry?_congr {s t : State} (h : t.collection = s.collection) (c : Nat) : t.entry? c = s.entry? c := by
  unfold State.entry?; rw [h]

/-! ### Cards -/

theorem State.card?_updCard (s : State) (id d : CardId) (f : Card → Card) (hf : ∀ r, (f r).id = r.id) :
    (s.updCard id f).card? d = if d = id then (s.card? id).map f else s.card? d := by
  unfold State.card? State.updCard State.updDirectory
  simp only
  induction s.directory.cards with
  | nil => by_cases h : d = id <;> simp [h]
  | cons r rs ih =>
    have hid : (if r.id == id then f r else r).id = r.id := by split <;> simp [hf]
    simp only [List.map_cons, List.find?_cons]
    rw [hid]
    by_cases hd : r.id = d
    · subst hd
      by_cases h : r.id = id
      · subst h; simp
      · simp [h]
    · have hd' : (r.id == d) = false := by simpa using hd
      rw [hd']
      by_cases h : d = id
      · subst h; simpa [hd'] using ih
      · simpa [h] using ih

/-! ### Ports -/

@[simp] theorem State.port_updPort_self (s : State) (p : Port) (f : PortState → PortState) : (s.updPort p f).port p = f (s.port p) := by
  cases p <;> rfl

@[simp] theorem State.updPort_updPort (s : State) (p : Port) (f g : PortState → PortState) :
    (s.updPort p f).updPort p g = s.updPort p (g ∘ f) := by cases p <;> rfl

/-! ### Cursors and the estimate -/

theorem Directory.cursor_setCursor (d : Directory) (p q : Port) (c : Option CardId) :
    (d.setCursor p c).cursor q = if q = p then c else d.cursor q := by cases p <;> cases q <;> rfl

@[simp] theorem Directory.setCursor_cards (d : Directory) (p : Port) (c : Option CardId) : (d.setCursor p c).cards = d.cards := by cases p <;> rfl

@[simp] theorem Directory.setCursor_edit (d : Directory) (p : Port) (c : Option CardId) : (d.setCursor p c).edit = d.edit := by cases p <;> rfl

@[simp] theorem Estimator.stage3_forecast (e : Estimator) : e.stage3.forecast = e.forecast := rfl

@[simp] theorem Estimator.stage3_postDeposit (e : Estimator) : e.stage3.postDeposit = e.postDeposit := rfl

/-- What reinitialisation leaves (R26, step 2): C and L of stage 3 are both 0. -/
theorem Estimator.reinitialise_eq (e : Estimator) :
    e.reinitialise =
      { e with
        smoothed := none, credit := 0, credited := 0, level := 0, rate := 0, baseline := none, forecast := 255, band := none, candidate := none
        count := 0, sensor := .unseen, rejected := 0 } := by simp [Estimator.reinitialise, Estimator.stage3]

end Sys2Proof.Machine
end

