-- ==== Sys2Proof/Laws/Frames.lean ====
section
/-!
SUPPORT. What the shared operations of the blocks leave as it was: none of them touches the waiting commands, the clock, the mode, the watch list, the
bindings, TUNING or the ports.
-/
namespace Sys2Proof.Machine

/-- The parts of the state that no block operation changes. -/
def State.rigid (s : State) :
    List Instr × Clock × Mode × StartKind × List WatchEntry × List Binding × Tuning × PortState × PortState × Grant :=
  (s.pending, s.clock, s.mode, s.startKind, s.watch, s.bindings, s.tuning, s.gateway, s.service, s.grant)

theorem forEach_keeps {α : Type} (g : State → α) (ns : List Nat) (f : Nat → State → State) (s : State)
    (h : ∀ n s, g (f n s) = g s) : g (forEach ns f s) = g s := by
  unfold forEach
  induction ns generalizing s with
  | nil => rfl
  | cons n ns ih => rw [List.foldl_cons, ih, h]

theorem foldl_keeps {α β : Type} (g : State → α) (xs : List β) (f : State → β → State) (s : State)
    (h : ∀ s x, g (f s x) = g s) : g (xs.foldl f s) = g s := by
  induction xs generalizing s with
  | nil => rfl
  | cons x xs ih => rw [List.foldl_cons, ih, h]

/-! ### Basic updates -/

@[simp] theorem rigid_updStation (s : State) (t : Nat) (f : Station → Station) : (s.updStation t f).rigid = s.rigid := rfl
@[simp] theorem rigid_setStation (s : State) (t : Nat) (o : Option Station) : (s.setStation t o).rigid = s.rigid := rfl
@[simp] theorem rigid_updContainer (s : State) (c : Nat) (f : Container → Container) : (s.updContainer c f).rigid = s.rigid := rfl
@[simp] theorem rigid_updEst (s : State) (c : Nat) (f : Estimator → Estimator) : (s.updEst c f).rigid = s.rigid := rfl
@[simp] theorem rigid_updFlags (s : State) (c : Nat) (f : ContainerFlags → ContainerFlags) : (s.updFlags c f).rigid = s.rigid := rfl
@[simp] theorem rigid_changeImage (s : State) (c : Nat) (f : Outputs → Outputs) : (s.changeImage c f).rigid = s.rigid := rfl
@[simp] theorem rigid_setLock (s : State) (c : Nat) (o : Output) : (s.setLock c o).rigid = s.rigid := rfl
@[simp] theorem rigid_setLatch (s : State) (c : Nat) (o : Output) : (s.setLatch c o).rigid = s.rigid := rfl
@[simp] theorem rigid_showLamp (s : State) (c : Nat) (l : Lamp) : (s.showLamp c l).rigid = s.rigid := rfl
@[simp] theorem rigid_updOp (s : State) (c : Nat) (f : Operation → Operation) : (s.updOp c f).rigid = s.rigid := rfl
@[simp] theorem rigid_updDirectory (s : State) (f : Directory → Directory) : (s.updDirectory f).rigid = s.rigid := rfl
@[simp] theorem rigid_updCard (s : State) (id : CardId) (f : Card → Card) : (s.updCard id f).rigid = s.rigid := rfl
@[simp] theorem rigid_updCollection (s : State) (f : List Entry → List Entry) : (s.updCollection f).rigid = s.rigid := rfl
@[simp] theorem rigid_place (s : State) (e : Entry) : (s.place e).rigid = s.rigid := rfl
@[simp] theorem rigid_unlist (s : State) (c : Nat) : (s.unlist c).rigid = s.rigid := rfl
@[simp] theorem rigid_countClaim (s : State) : s.countClaim.rigid = s.rigid := rfl
@[simp] theorem rigid_addStarted (s : State) (c : Nat) : (s.addStarted c).rigid = s.rigid := rfl
@[simp] theorem rigid_freeOperation (s : State) (c n : Nat) : (s.freeOperation c n).rigid = s.rigid := rfl
@[simp] theorem rigid_postResult (s : State) (e : Event) (r : ActionResult) (m : BitVec 4) : (s.postResult e r m).rigid = s.rigid := rfl
@[simp] theorem rigid_post (s : State) (cls : EventClass) (t c : Option Nat) (b : EventBody) : (s.post cls t c b).rigid = s.rigid := rfl
@[simp] theorem rigid_postAt (s : State) (cls : EventClass) (c : Nat) (b : EventBody) : (s.postAt cls c b).rigid = s.rigid := rfl
@[simp] theorem rigid_postListEntry (s : State) (e : Entry) (r : Option Reason) : (s.postListEntry e r).rigid = s.rigid := rfl
@[simp] theorem rigid_commit (s : State) (a : Admission) : (s.commit a).rigid = s.rigid := rfl
@[simp] theorem rigid_giveBack (s : State) (a : Admission) : (s.giveBack a).rigid = s.rigid := rfl
@[simp] theorem rigid_endVisit (s : State) : s.endVisit.rigid = s.rigid := rfl
@[simp] theorem rigid_endFlight (s : State) (c : Nat) : (s.endFlight c).rigid = s.rigid := rfl
@[simp] theorem rigid_evaluate (s : State) (t : Nat) : (s.evaluate t).rigid = s.rigid := rfl
@[simp] theorem rigid_releaseVerification (s : State) (c : Nat) : (s.releaseVerification c).rigid = s.rigid := rfl
@[simp] theorem rigid_measurementStarted (s : State) (c : Nat) : (s.measurementStarted c).rigid = s.rigid := rfl

/-! ### The collection list -/

@[simp] theorem rigid_insertionRequest (s : State) (c : Nat) (x : Reason) (h : Nat) : (s.insertionRequest c x h).rigid = s.rigid := by
  unfold State.insertionRequest; split
  · simp
  · split <;> simp

@[simp] theorem rigid_downgradeRequest (s : State) (c h : Nat) : (s.downgradeRequest c h).rigid = s.rigid := by
  unfold State.downgradeRequest; split
  · rfl
  · split <;> simp

@[simp] theorem rigid_removalRequest (s : State) (c h : Nat) : (s.removalRequest c h).rigid = s.rigid := by
  unfold State.removalRequest; split
  · rfl
  · split <;> simp

@[simp] theorem rigid_bandRequests (s : State) (c : Nat) (old : Option Band) (new : Band) (h : Nat) :
    (s.bandRequests c old new h).rigid = s.rigid := by
  unfold State.bandRequests
  simp only
  split_ifs <;> simp

@[simp] theorem rigid_forecastEvaluation (s : State) (c h : Nat) : (s.forecastEvaluation c h).rigid = s.rigid := by
  unfold State.forecastEvaluation
  split <;> split <;> simp

@[simp] theorem rigid_claimEntry (s : State) (c : Nat) : (s.claimEntry c).rigid = s.rigid := by
  unfold State.claimEntry
  split
  · split <;> simp
  · rfl

@[simp] theorem rigid_claimRequest (s : State) (c : Nat) : (s.claimRequest c).rigid = s.rigid := by
  unfold State.claimRequest; split <;> simp

@[simp] theorem rigid_releaseWith (s : State) (c : Nat) (x : Reason) : (s.releaseWith c x).rigid = s.rigid := by
  unfold State.releaseWith
  split
  · rfl
  · simp only; split <;> simp

@[simp] theorem rigid_listOutcome (s : State) (c : Nat) (o : LiftOutcome) : (s.listOutcome c o).rigid = s.rigid := by
  cases o <;> simp [State.listOutcome]

/-! ### The integrity monitor -/

@[simp] theorem rigid_patternChange (s : State) (c : Nat) (old : PerContact (Option Bool)) : (s.patternChange c old).rigid = s.rigid := by
  unfold State.patternChange; split <;> simp

theorem rigid_withPattern (s : State) (c : Nat) (f : State → State) (h : ∀ s, (f s).rigid = s.rigid) :
    (s.withPattern c f).rigid = s.rigid := by simp [State.withPattern, h]

@[simp] theorem rigid_settleContacts (s : State) (c : Nat) : (s.settleContacts c).rigid = s.rigid := by
  unfold State.settleContacts; split <;> simp

@[simp] theorem rigid_completeActions (s : State) : s.completeActions.rigid = s.rigid := by
  unfold State.completeActions
  exact (foldl_keeps State.rigid (s.actions.filter HeldAction.complete) (fun s a => s.postHeld a) _ fun s a => rfl).trans rfl

@[simp] theorem rigid_updParts (s : State) (c : Nat) (f : PartState → PartState) : (s.updParts c f).rigid = s.rigid := by
  simp [State.updParts]; rfl

@[simp] theorem rigid_followParts (s : State) (c : Nat) : (s.followParts c).rigid = s.rigid := by
  unfold State.followParts; split
  · split <;> simp
  · rfl

/-! ### Hatches, blocks, bound actions -/

@[simp] theorem rigid_enterUnlatched (s : State) (c : Nat) : (s.enterUnlatched c).rigid = s.rigid := by
  unfold State.enterUnlatched; rw [rigid_withPattern] <;> simp

@[simp] theorem rigid_exitTest (s : State) (c : Nat) : (s.exitTest c).rigid = s.rigid := by
  unfold State.exitTest; split <;> simp

@[simp] theorem rigid_changeHatch (s : State) (c : Nat) (f : HatchRecord → HatchRecord) : (s.changeHatch c f).rigid = s.rigid := by
  unfold State.changeHatch
  simp only
  split
  · rw [rigid_exitTest, rigid_followParts, rigid_withPattern]; simp
  · rw [rigid_followParts, rigid_withPattern]; simp

@[simp] theorem rigid_returnAdmission (s : State) (a : Option Admission) : (s.returnAdmission a).rigid = s.rigid := by
  unfold State.returnAdmission; split <;> simp

@[simp] theorem rigid_lockHatch (s : State) (c : Nat) (h : HatchRecord) : (s.lockHatch c h).rigid = s.rigid := by
  simp [State.lockHatch]

@[simp] theorem rigid_withdraw (s : State) (c : Nat) : (s.withdraw c).rigid = s.rigid := by
  unfold State.withdraw
  split
  · rfl
  · split <;> simp

@[simp] theorem rigid_blockRequest (s : State) (c : Nat) (b : BlockCause) : (s.blockRequest c b).rigid = s.rigid := by
  simp [State.blockRequest]

@[simp] theorem rigid_startLock (s : State) (e : Event) (cs : List Nat) : (s.startLock e cs).rigid = s.rigid := by
  unfold State.startLock
  simp only
  rw [rigid_completeActions]
  exact forEach_keeps State.rigid cs _ s fun c s => rigid_blockRequest s c _

@[simp] theorem rigid_raise (s : State) (cls : EventClass) (t : Nat) (c : Option Nat) (named : List Nat) (b : EventBody) :
    (s.raise cls t c named b).rigid = s.rigid := by
  unfold State.raise
  simp only
  split
  · simp
  · simp
  · simp
  · rw [rigid_postResult]; exact forEach_keeps State.rigid _ _ _ fun c s => rigid_insertionRequest s c _ _

@[simp] theorem rigid_raiseAt (s : State) (cls : EventClass) (c : Nat) (b : EventBody) : (s.raiseAt cls c b).rigid = s.rigid := by
  simp [State.raiseAt]

/-! ### The estimator -/

@[simp] theorem rigid_reportPassage (s : State) (c : Nat) (up : Bool) (k : Nat) : (s.reportPassage c up k).rigid = s.rigid := rfl

@[simp] theorem rigid_reportPassages (s : State) (c : Nat) (x : Setup) (b b' : Band) : (s.reportPassages c x b b').rigid = s.rigid := by
  unfold State.reportPassages
  exact forEach_keeps State.rigid _ _ _ fun k s => rfl

@[simp] theorem rigid_changeBand (s : State) (c : Nat) (x : Setup) (old : Option Band) (new : Band) :
    (s.changeBand c x old new).rigid = s.rigid := by
  unfold State.changeBand
  simp only [rigid_bandRequests, rigid_updEst]
  split <;> simp

@[simp] theorem rigid_evaluateSeed (s : State) (c : Nat) (x : Setup) (e : Estimator) : (s.evaluateSeed c x e).rigid = s.rigid := by
  unfold State.evaluateSeed
  simp only
  split_ifs <;> simp

@[simp] theorem rigid_evaluateSample (s : State) (c : Nat) (x : Setup) (e : Estimator) : (s.evaluateSample c x e).rigid = s.rigid := by
  unfold State.evaluateSample
  split
  · rfl
  · simp only; split_ifs <;> simp

@[simp] theorem rigid_evaluateCredit (s : State) (c : Nat) (x : Setup) (e : Estimator) : (s.evaluateCredit c x e).rigid = s.rigid := by
  unfold State.evaluateCredit
  split
  · rfl
  · split <;> simp

@[simp] theorem rigid_credit (s : State) (c w : Nat) : (s.credit c w).rigid = s.rigid := by
  unfold State.credit
  split
  · rfl
  · split <;> simp

@[simp] theorem rigid_requestMeasurement (s : State) (c : Nat) (tag : Option VerifyTag) : (s.requestMeasurement c tag).rigid = s.rigid := by
  unfold State.requestMeasurement; split <;> simp

@[simp] theorem rigid_rejectSample (s : State) (c : Nat) : (s.rejectSample c).rigid = s.rigid := by
  unfold State.rejectSample
  split
  · rfl
  · simp only; split <;> simp

@[simp] theorem rigid_sensorGood (s : State) (c : Nat) (was : Sensor) (l : Nat) : (s.sensorGood c was l).rigid = s.rigid := by
  unfold State.sensorGood; simp only; split <;> simp

@[simp] theorem rigid_overfillTest (s : State) (c : Nat) (x : Setup) (d : Nat) : (s.overfillTest c x d).rigid = s.rigid := by
  unfold State.overfillTest
  split
  · rfl
  · split <;> simp

@[simp] theorem rigid_acceptSample (s : State) (c : Nat) (x : Setup) (e : Estimator) (d q : Nat) (tag : Option VerifyTag) :
    (s.acceptSample c x e d q tag).rigid = s.rigid := by
  unfold State.acceptSample; simp only; split_ifs <;> simp

@[simp] theorem rigid_takeEcho (s : State) (c : Nat) (e : Echo) : (s.takeEcho c e).1.rigid = s.rigid := by
  unfold State.takeEcho
  split
  · rfl
  · split
    · rfl
    · simp
    · simp only
      split <;> split
      all_goals first
        | simp
        | (split
           · simp
           · split <;> simp)

@[simp] theorem rigid_takeEchoTimeout (s : State) (c : Nat) : (s.takeEchoTimeout c).1.rigid = s.rigid := by
  unfold State.takeEchoTimeout
  split
  · rfl
  · split
    · rfl
    · split <;> simp

@[simp] theorem rigid_startSchedule (s : State) : s.startSchedule.rigid = s.rigid := by
  unfold State.startSchedule
  exact forEach_keeps State.rigid _ _ _ fun c s => by simp

/-! ### The emptying controller -/

@[simp] theorem rigid_makeOperation (s : State) (c : Nat) (b : StartBy) : (s.makeOperation c b).rigid = s.rigid := by
  unfold State.makeOperation; split <;> rfl

@[simp] theorem rigid_start (s : State) (c : Nat) (b : StartBy) : (s.start c b).rigid = s.rigid := by
  unfold State.start
  simp only [rigid_exitTest, rigid_withdraw]
  split <;> simp [rigid_withPattern]

@[simp] theorem rigid_finish (s : State) (op : Operation) (o : LiftOutcome) : (s.finish op o).rigid = s.rigid := by
  unfold State.finish
  simp only [rigid_postAt]
  rw [rigid_withPattern _ _ _ fun s => rigid_freeOperation s _ _, rigid_listOutcome]
  split
  · rw [rigid_blockRequest]; rfl
  · rfl

@[simp] theorem rigid_endOperation (s : State) (c : Nat) (o : LiftOutcome) : (s.endOperation c o).rigid = s.rigid := by
  unfold State.endOperation
  split
  · rfl
  · simp only
    split
    · rw [forEach_keeps State.rigid _ _ _ fun c s => rigid_exitTest s c]; simp
    · simp

@[simp] theorem rigid_afterAnswer (s : State) (c : Nat) : (s.afterAnswer c).rigid = s.rigid := by
  unfold State.afterAnswer
  split
  · split <;> simp
  · rfl

@[simp] theorem rigid_takeAnswer (s : State) (c : Nat) (a : Answer) : (s.takeAnswer c a).rigid = s.rigid := by
  unfold State.takeAnswer
  split
  · rfl
  · split
    · split
      · simp
      · simp only
        split
        · split <;> simp
        · simp
    · rfl

@[simp] theorem rigid_answered (s : State) (c : Nat) (a : Option Answer) : (s.answered c a).rigid = s.rigid := by
  unfold State.answered; split <;> simp

@[simp] theorem rigid_attempt (s : State) (c : Nat) : (s.attempt c).rigid = s.rigid := by
  unfold State.attempt
  split
  · rfl
  · dsimp only; split <;> split
    all_goals first
      | rw [rigid_takeAnswer, rigid_requestMeasurement, rigid_updOp]
      | rw [rigid_requestMeasurement, rigid_updOp]

@[simp] theorem rigid_enterLifted (s : State) (c : Nat) : (s.enterLifted c).rigid = s.rigid := by
  unfold State.enterLifted; rw [rigid_withPattern]; simp

@[simp] theorem rigid_enterReturned (s : State) (c : Nat) : (s.enterReturned c).rigid = s.rigid := by
  unfold State.enterReturned; rw [rigid_attempt, rigid_withPattern] <;> simp

@[simp] theorem rigid_seatingTest (s : State) (c : Nat) (acc : PerContact Acceptance) : (s.seatingTest c acc).rigid = s.rigid := by
  unfold State.seatingTest
  split
  · rfl
  · split
    · simp only; split <;> simp
    · rfl

@[simp] theorem rigid_opContacts (s : State) (c : Nat) (acc : PerContact Acceptance) : (s.opContacts c acc).rigid = s.rigid := by
  unfold State.opContacts
  split
  · split
    · split <;> simp
    · split <;> simp
    · split <;> simp
    · rfl
  · rfl

@[simp] theorem rigid_emptyingContacts (s : State) (c : Nat) (acc : PerContact Acceptance) : (s.emptyingContacts c acc).rigid = s.rigid := by
  simp [State.emptyingContacts]

@[simp] theorem rigid_emptyingOffline (s : State) (t : Nat) : (s.emptyingOffline t).rigid = s.rigid := by
  unfold State.emptyingOffline
  exact forEach_keeps State.rigid _ _ _ fun c s => by split <;> simp

@[simp] theorem rigid_actuatorFaultNotice (s : State) (c : Nat) : (s.actuatorFaultNotice c).rigid = s.rigid := by
  unfold State.actuatorFaultNotice; split <;> simp

/-! ### The admission controller -/

@[simp] theorem rigid_deny (s : State) (c : Nat) (id : CardId) (code : RefusalCode) : (s.deny c id code).rigid = s.rigid := by
  unfold State.deny State.showRefusal
  rw [rigid_postAt]
  split <;> rfl

@[simp] theorem rigid_watchStep (s : State) (c : Nat) (id : CardId) : (s.watchStep c id).rigid = s.rigid := by
  unfold State.watchStep; split <;> rfl

@[simp] theorem rigid_admit (s : State) (c : Nat) (a : Admission) : (s.admitCard c a).rigid = s.rigid := by simp [State.admitCard]

@[simp] theorem rigid_reserveAndAdmit (s : State) (c : Nat) (k : Container) (r : Card) : (s.reserveAndAdmit c k r).rigid = s.rigid := by
  unfold State.reserveAndAdmit; simp only; split <;> simp

@[simp] theorem rigid_crewStart (s : State) (c : Nat) (id : CardId) : (s.crewStart c id).rigid = s.rigid := by
  unfold State.crewStart; split <;> simp

@[simp] theorem rigid_directorySteps (s : State) (c : Nat) (k : Container) (id : CardId) : (s.directorySteps c k id).rigid = s.rigid := by
  unfold State.directorySteps
  split
  · simp
  · split_ifs
    · simp
    · simp
    · simp
    · split <;> simp

@[simp] theorem rigid_serve (s : State) (c : Nat) (id : CardId) : (s.serve c id).rigid = s.rigid := by
  unfold State.serve
  split
  · rfl
  · simp only; split_ifs <;> simp

@[simp] theorem rigid_present (s : State) (c : Nat) (id : CardId) : (s.present c id).rigid = s.rigid := by
  unfold State.present; split
  · simp
  · split
    · rfl
    · simp

@[simp] theorem rigid_serveWaiting (s : State) : s.serveWaiting.rigid = s.rigid := by
  unfold State.serveWaiting
  exact foldl_keeps State.rigid _ _ _ fun s p => by simp

@[simp] theorem rigid_completeDeposit (s : State) (c : Nat) (h : HatchRecord) : (s.completeDeposit c h).rigid = s.rigid := by
  unfold State.completeDeposit
  split
  · simp
  · split <;> simp

@[simp] theorem rigid_admissionContacts (s : State) (c : Nat) (acc : PerContact Acceptance) :
    (s.admissionContacts c acc).rigid = s.rigid := by
  unfold State.admissionContacts
  split
  · rfl
  · split
    · split <;> simp [State.openHatch]
    · rfl

@[simp] theorem rigid_hatchOffline (s : State) (c : Nat) : (s.hatchOffline c).rigid = s.rigid := by
  unfold State.hatchOffline
  split
  · rfl
  · split <;> simp

@[simp] theorem rigid_cancelForce (s : State) (c : Nat) : (s.cancelForce c).rigid = s.rigid := by
  unfold State.cancelForce
  split
  · rfl
  · split <;> simp

/-! ### The scanner -/

@[simp] theorem rigid_visit (s : State) (t : Nat) (st : Station) : (s.visit t st).rigid = s.rigid := by
  unfold State.visit
  simp only
  split_ifs
  · rw [forEach_keeps State.rigid _ _ _ fun c s => rigid_measurementStarted s c]; rfl
  · rw [forEach_keeps State.rigid _ _ _ fun c s => rigid_measurementStarted s c]; rfl
  · rfl
  · rfl

@[simp] theorem rigid_handSlot (s : State) (c : Nat) (r : SlotReport) (acc : PerContact Acceptance) : (s.handSlot c r acc).rigid = s.rigid := by
  unfold State.handSlot State.handEcho State.handCard State.handContacts
  split <;> split <;> split <;> simp

@[simp] theorem rigid_handSlots (t i : Nat) (rs : List (SlotReport × PerContact Acceptance)) (s : State) :
    (State.handSlots t i rs s).rigid = s.rigid := by
  induction rs generalizing i s with
  | nil => rfl
  | cons r rs ih =>
    obtain ⟨r, acc⟩ := r
    simp [State.handSlots, ih]

@[simp] theorem rigid_flagBreaches (s : State) (bs : List Breach) : (s.flagBreaches bs).rigid = s.rigid := by
  unfold State.flagBreaches
  exact forEach_keeps State.rigid _ _ _ fun c s => rfl

@[simp] theorem rigid_compare (s : State) (t : Nat) (before : StationStatus) (b : Bool) : (s.compare t before b).rigid = s.rigid := by
  unfold State.compare
  split
  · rfl
  · simp only; split <;> simp

@[simp] theorem rigid_takeInput (s : State) (t : Nat) (acc : PerInput Acceptance) (i : Input) : (s.takeInput t acc i).rigid = s.rigid := by
  unfold State.takeInput
  split
  · rfl
  · simp only; split <;> simp

@[simp] theorem rigid_takeInputs (s : State) (t : Nat) (acc : PerInput Acceptance) : (s.takeInputs t acc).rigid = s.rigid := by
  simp [State.takeInputs]

@[simp] theorem rigid_markOnline (s : State) (t : Nat) : (s.markOnline t).rigid = s.rigid := rfl

@[simp] theorem rigid_onlineNotice (s : State) (t : Nat) : (s.onlineNotice t).rigid = s.rigid := by
  unfold State.onlineNotice; simp only; split <;> rfl

@[simp] theorem rigid_takeReply (s : State) (t : Nat) (st : Station) (r : PollReport) : (s.takeReply t st r).rigid = s.rigid := by
  unfold State.takeReply
  simp only [rigid_endVisit]
  split_ifs <;> simp

@[simp] theorem rigid_dropMarker (s : State) (c : Nat) : (s.dropMarker c).rigid = s.rigid := by
  unfold State.dropMarker; split <;> simp

@[simp] theorem rigid_estimatorOffline (s : State) (c : Nat) : (s.estimatorOffline c).rigid = s.rigid := by
  unfold State.estimatorOffline; split <;> simp

@[simp] theorem rigid_monitorOffline (s : State) (t : Nat) : (s.monitorOffline t).rigid = s.rigid := by
  unfold State.monitorOffline
  simp only
  rw [forEach_keeps State.rigid _ _ _ fun c s => rigid_updParts s c _]
  rfl

@[simp] theorem rigid_goOffline (s : State) (t : Nat) : (s.goOffline t).rigid = s.rigid := by
  unfold State.goOffline
  simp only
  rw [forEach_keeps State.rigid _ _ _ fun c s => rigid_estimatorOffline s c, rigid_monitorOffline, rigid_emptyingOffline,
    forEach_keeps State.rigid _ _ _ fun c s => rigid_hatchOffline s c, forEach_keeps State.rigid _ _ _ fun c s => rigid_dropMarker s c]
  rfl

@[simp] theorem rigid_miss (s : State) (t : Nat) (st : Station) : (s.miss t st).rigid = s.rigid := by
  unfold State.miss
  split
  · rfl
  · simp only; split <;> simp

@[simp] theorem rigid_missVisit (s : State) : s.missVisit.rigid = s.rigid := by
  unfold State.missVisit
  split
  · rfl
  · split <;> simp

end Sys2Proof.Machine
end

