-- ==== Sys2Proof/Laws/Hatches.lean ====
section
/-!
SUPPORT. What the monitor's hand-overs and a hatch change do: completing actions, following parts, a pattern change, `changeHatch`.
-/
namespace Sys2Proof.Machine

/-! ### Actions and parts change nothing but the actions in flight and the report queue -/

/-- Nothing but the actions in flight and the report queue differs. -/
def OnlyActions (s t : State) : Prop := { t with actions := s.actions, report := s.report } = s

theorem OnlyActions.refl (s : State) : OnlyActions s s := rfl

theorem OnlyActions.trans {r s t : State} (h₁ : OnlyActions r s) (h₂ : OnlyActions s t) : OnlyActions r t := by
  unfold OnlyActions at *
  rw [← h₂] at h₁
  exact h₁

theorem onlyActions_foldl {β : Type} (xs : List β) (f : State → β → State) (s : State) (h : ∀ s x, OnlyActions s (f s x)) :
    OnlyActions s (xs.foldl f s) := by
  induction xs generalizing s with
  | nil => exact .refl s
  | cons x xs ih => exact (h s x).trans (ih _)

theorem onlyActions_completeActions (s : State) : OnlyActions s s.completeActions := by
  unfold State.completeActions
  refine OnlyActions.trans (s := { s with actions := s.actions.filter fun a => !a.complete }) rfl ?_
  exact onlyActions_foldl _ _ _ fun s a => rfl

theorem onlyActions_updParts (s : State) (c : Nat) (f : PartState → PartState) : OnlyActions s (s.updParts c f) := by
  unfold State.updParts
  exact OnlyActions.trans (s := { s with actions := s.actions.map (HeldAction.updPart c f) }) rfl (onlyActions_completeActions _)

theorem onlyActions_followParts (s : State) (c : Nat) : OnlyActions s (s.followParts c) := by
  unfold State.followParts
  split
  · split
    · exact onlyActions_updParts s c _
    · exact .refl s
  · exact .refl s

theorem OnlyActions.stations {s t : State} (h : OnlyActions s t) : t.stations = s.stations := by
  unfold OnlyActions at h; have := congrArg State.stations h; exact this
theorem OnlyActions.ops {s t : State} (h : OnlyActions s t) : t.ops = s.ops := by
  unfold OnlyActions at h; have := congrArg State.ops h; exact this
theorem OnlyActions.collection {s t : State} (h : OnlyActions s t) : t.collection = s.collection := by
  unfold OnlyActions at h; have := congrArg State.collection h; exact this
theorem OnlyActions.directory {s t : State} (h : OnlyActions s t) : t.directory = s.directory := by
  unfold OnlyActions at h; have := congrArg State.directory h; exact this
theorem OnlyActions.round {s t : State} (h : OnlyActions s t) : t.round = s.round := by
  unfold OnlyActions at h; have := congrArg State.round h; exact this
theorem OnlyActions.bus {s t : State} (h : OnlyActions s t) : t.bus = s.bus := by
  unfold OnlyActions at h; have := congrArg State.bus h; exact this
theorem OnlyActions.waiting {s t : State} (h : OnlyActions s t) : t.waiting = s.waiting := by
  unfold OnlyActions at h; have := congrArg State.waiting h; exact this

@[simp] theorem State.followParts_stations (s : State) (c : Nat) : (s.followParts c).stations = s.stations :=
  (onlyActions_followParts s c).stations
@[simp] theorem State.followParts_ops (s : State) (c : Nat) : (s.followParts c).ops = s.ops := (onlyActions_followParts s c).ops
@[simp] theorem State.followParts_collection (s : State) (c : Nat) : (s.followParts c).collection = s.collection :=
  (onlyActions_followParts s c).collection
@[simp] theorem State.followParts_directory (s : State) (c : Nat) : (s.followParts c).directory = s.directory :=
  (onlyActions_followParts s c).directory
@[simp] theorem State.followParts_round (s : State) (c : Nat) : (s.followParts c).round = s.round := (onlyActions_followParts s c).round
@[simp] theorem State.followParts_bus (s : State) (c : Nat) : (s.followParts c).bus = s.bus := (onlyActions_followParts s c).bus
@[simp] theorem State.followParts_waiting (s : State) (c : Nat) : (s.followParts c).waiting = s.waiting :=
  (onlyActions_followParts s c).waiting
@[simp] theorem State.followParts_container? (s : State) (c d : Nat) : (s.followParts c).container? d = s.container? d :=
  State.container?_congr (onlyActions_followParts s c).stations d
@[simp] theorem State.followParts_station? (s : State) (c t : Nat) : (s.followParts c).station? t = s.station? t :=
  State.station?_congr (onlyActions_followParts s c).stations t
@[simp] theorem State.followParts_opOf (s : State) (c d : Nat) : (s.followParts c).opOf d = s.opOf d :=
  State.opOf_congr (onlyActions_followParts s c).ops d

/-! ### Frames compose -/

theorem OnlyContainer.refl (c : Nat) (s : State) : OnlyContainer c s s := ⟨fun _ _ => rfl, fun _ _ => rfl, rfl⟩

theorem OnlyContainer.trans {c : Nat} {r s t : State} (h₁ : OnlyContainer c r s) (h₂ : OnlyContainer c s t) : OnlyContainer c r t :=
  ⟨fun d hd => (h₂.1 d hd).trans (h₁.1 d hd), fun u hu => (h₂.2.1 u hu).trans (h₁.2.1 u hu), h₂.2.2.trans h₁.2.2⟩

theorem OnlyContainer.congr {c : Nat} {s t u : State} (h : OnlyContainer c s t) (hu : u.stations = t.stations) : OnlyContainer c s u :=
  ⟨fun d hd => (State.container?_congr hu d).trans (h.1 d hd), fun v hv => (State.station?_congr hu v).trans (h.2.1 v hv),
    by rw [State.station?_congr hu]; exact h.2.2⟩

theorem onlyContainer_updContainer (s : State) (c : Nat) (f : Container → Container) : OnlyContainer c s (s.updContainer c f) := by
  refine ⟨fun d hd => by rw [State.container?_updContainer, if_neg hd], fun u hu => ?_, ?_⟩
  · unfold State.updContainer; rw [State.station?_updStation, if_neg hu]
  · unfold State.updContainer
    rw [State.station?_updStation, if_pos rfl]
    cases s.station? (c / 4) <;> rfl

theorem onlyContainer_changeImage (s : State) (c : Nat) (f : Outputs → Outputs) : OnlyContainer c s (s.changeImage c f) := by
  refine ⟨fun d hd => by rw [State.container?_changeImage, if_neg hd], fun u hu => ?_, ?_⟩
  · unfold State.changeImage; rw [State.station?_updStation, if_neg hu]
  · unfold State.changeImage
    rw [State.station?_updStation, if_pos rfl]
    cases s.station? (c / 4) with
    | none => rfl
    | some st =>
      simp only [Option.map_some, Station.changeImage]
      split
      · rfl
      · split <;> rfl

theorem container?_evaluate (s : State) (t d : Nat) : (s.evaluate t).container? d = s.container? d := by
  unfold State.evaluate
  apply State.container?_updStation
  intro st; split <;> rfl

theorem onlyContainer_evaluate (s : State) (c : Nat) : OnlyContainer c s (s.evaluate (c / 4)) := by
  refine ⟨fun d _ => container?_evaluate s _ d, fun u hu => ?_, ?_⟩
  · unfold State.evaluate; rw [State.station?_updStation, if_neg hu]
  · unfold State.evaluate
    rw [State.station?_updStation, if_pos rfl]
    cases s.station? (c / 4) with
    | none => rfl
    | some st => simp only [Option.map_some]; split <;> rfl

/-! ### A pattern change -/

theorem patternChange_only (s : State) (c : Nat) (old : PerContact (Option Bool)) :
    OnlyContainer c s (s.patternChange c old) ∧ { s.patternChange c old with stations := s.stations } = s := by
  unfold State.patternChange
  split
  · exact ⟨.refl c s, rfl⟩
  · exact ⟨(onlyContainer_updContainer s c _).trans (onlyContainer_evaluate _ c), rfl⟩

@[simp] theorem patternChange_ops (s : State) (c : Nat) (old : PerContact (Option Bool)) : (s.patternChange c old).ops = s.ops := by
  unfold State.patternChange; split <;> rfl

theorem patternChange_container? (s : State) (c : Nat) (old : PerContact (Option Bool)) (k : Container) (hk : s.container? c = some k) :
    ∃ k', (s.patternChange c old).container? c = some k' ∧ SameButSettle k' k := by
  unfold State.patternChange
  split
  · exact ⟨k, hk, rfl⟩
  · rw [container?_evaluate, State.container?_updContainer, if_pos rfl, hk]
    exact ⟨_, rfl, rfl⟩

theorem patternChange_none (s : State) (c : Nat) (old : PerContact (Option Bool)) (hk : s.container? c = none) :
    (s.patternChange c old).container? c = none := by
  unfold State.patternChange
  split
  · exact hk
  · rw [container?_evaluate, State.container?_updContainer, if_pos rfl, hk]; rfl

/-! ### A hatch change -/

theorem SameButSettle.trans {k k' k'' : Container} (h₁ : SameButSettle k' k) (h₂ : SameButSettle k'' k') : SameButSettle k'' k := by
  unfold SameButSettle at *
  rw [← h₂] at h₁
  exact h₁

theorem SameButSettle.hatch {k k' : Container} (h : SameButSettle k' k) : k'.hatch = k.hatch := by
  unfold SameButSettle at h; have := congrArg Container.hatch h; exact this
theorem SameButSettle.outputs {k k' : Container} (h : SameButSettle k' k) : k'.outputs = k.outputs := by
  unfold SameButSettle at h; have := congrArg Container.outputs h; exact this
theorem SameButSettle.est {k k' : Container} (h : SameButSettle k' k) : k'.est = k.est := by
  unfold SameButSettle at h; have := congrArg Container.est h; exact this
theorem SameButSettle.contacts {k k' : Container} (h : SameButSettle k' k) : k'.contacts = k.contacts := by
  unfold SameButSettle at h; have := congrArg Container.contacts h; exact this

theorem mayUnlatch_phase {s : State} {c : Nat} (h : s.mayUnlatch c = true) : s.phaseOf c = some .pending := by
  unfold State.mayUnlatch at h
  split at h
  · rename_i op k hop _
    simp only [Bool.and_eq_true, beq_iff_eq] at h
    simp [State.phaseOf, hop, h.1.1.1]
  · cases h

/-- A hatch change that brings about no exit test: the hatch record of container `c` alone changes, with what the monitor makes of it. -/
theorem changeHatch_spec (s : State) (c : Nat) (f : HatchRecord → HatchRecord) (k : Container) (hk : s.container? c = some k)
    (h : k.hatch.state = .locked ∨ (f k.hatch).state ≠ .locked ∨ s.phaseOf c ≠ some .pending) :
    OnlyHatch c s (s.changeHatch c f) ∧
      ∃ k', (s.changeHatch c f).container? c = some k' ∧ SameButSettle k' { k with hatch := f k.hatch } := by
  have hu : (s.updContainer c fun k => { k with hatch := f k.hatch }).container? c = some { k with hatch := f k.hatch } := by
    rw [State.container?_updContainer, if_pos rfl, hk]; rfl
  have hp := patternChange_only (s.updContainer c fun k => { k with hatch := f k.hatch }) c (s.pattern c)
  obtain ⟨k', hk', hs⟩ := patternChange_container? _ c (s.pattern c) _ hu
  have ha := onlyActions_followParts ((s.updContainer c fun k => { k with hatch := f k.hatch }).patternChange c (s.pattern c)) c
  have key : s.changeHatch c f = ((s.updContainer c fun k => { k with hatch := f k.hatch }).patternChange c (s.pattern c)).followParts c := by
    unfold State.changeHatch
    simp only [State.withPattern]
    refine ite_eq_right_iff.2 fun hc => ?_
    unfold State.exitTest
    refine if_neg fun hm => ?_
    simp only [Bool.and_eq_true, Bool.not_eq_true', State.hatchLocked, hk, State.followParts_container?, hk'] at hc
    rcases h with h | h | h
    · simp [h] at hc
    · rw [hs.hatch] at hc
      exact h (by simpa using hc.2)
    · apply h
      have hm := mayUnlatch_phase hm
      have ho : ((s.updContainer c fun k => { k with hatch := f k.hatch }).patternChange c (s.pattern c)).ops = s.ops := by
        rw [patternChange_ops]; rfl
      simp only [State.phaseOf, State.followParts_opOf] at hm ⊢
      rw [State.opOf_congr ho] at hm
      exact hm
  rw [key]
  refine ⟨⟨((onlyContainer_updContainer s c _).trans hp.1).congr ha.stations, ?_⟩, k', ?_, hs⟩
  · have h1 := congrArg (fun t : State => { t with stations := s.stations, actions := s.actions, report := s.report }) hp.2
    unfold OnlyActions at ha
    have h2 := congrArg (fun t : State => { t with stations := s.stations, actions := s.actions, report := s.report }) ha
    exact h2.trans h1
  · rw [State.followParts_container?]; exact hk'

end Sys2Proof.Machine
end

