-- ==== Sys2Proof/Laws/PerInstr.lean ====
section
/-!
SUPPORT. One statement about every command as syntax: a command that stands for a request has a kind that the table of R185 names, and a well-formed one a
frame no longer than a frame can be (R180).
-/
namespace Sys2Proof.Laws.KindFits

open Sys2Proof.Machine

/-- A command that stands for a completed request has a known kind, and when it is well-formed at most 239 parameter bytes (R180, R185). -/
def Statement (i : Instr) : Prop :=
  ∀ p kind f, requestOf i = some (p, kind, f) → (requestRule kind).isSome = true ∧ (i.wellFormed = true → f.params.length ≤ 239)

theorem of_none {i : Instr} (h : requestOf i = none) : Statement i := fun p k f e => by rw [h] at e; cases e

theorem of_some {i : Instr} {p : Port} {k : Byte} {f : Frame} (h : requestOf i = some (p, k, f)) (hk : (requestRule k).isSome = true)
    (hw : i.wellFormed = true → f.fits = true) : Statement i := fun p' k' f' e => by
  rw [h] at e
  cases e
  exact ⟨hk, fun w => by simpa [Frame.fits] using hw w⟩

theorem coldStart : Statement .coldStart := of_none rfl
theorem warmStart : Statement .warmStart := of_none rfl
theorem clockTick : Statement .clockTick := of_none rfl
theorem hourBoundary : Statement .hourBoundary := of_none rfl
theorem stationVisit : Statement .stationVisit := of_none rfl
theorem pollReply (bytes : List Byte) : Statement (.pollReply bytes) := of_none rfl
theorem pollReplyInvalid : Statement .pollReplyInvalid := of_none rfl
theorem busByteGapTimeout : Statement .busByteGapTimeout := of_none rfl
theorem pollReplyTimeout : Statement .pollReplyTimeout := of_none rfl
theorem lampHoldExpiry (c : Nat) : Statement (.lampHoldExpiry c) := of_none rfl
theorem periodicTimerExpiry (c : Nat) : Statement (.periodicTimerExpiry c) := of_none rfl
theorem postDepositTimerExpiry (c : Nat) : Statement (.postDepositTimerExpiry c) := of_none rfl
theorem echoTimeout (c : Nat) : Statement (.echoTimeout c) := of_none rfl
theorem releaseWindowExpiry (c : Nat) : Statement (.releaseWindowExpiry c) := of_none rfl
theorem depositTimerExpiry (c : Nat) : Statement (.depositTimerExpiry c) := of_none rfl
theorem liftWaitExpiry (c : Nat) : Statement (.liftWaitExpiry c) := of_none rfl
theorem liftedTimerExpiry (c : Nat) : Statement (.liftedTimerExpiry c) := of_none rfl
theorem attemptTimerExpiry (c : Nat) : Statement (.attemptTimerExpiry c) := of_none rfl
theorem settleWindowExpiry (c : Nat) (a : Actuator) : Statement (.settleWindowExpiry c a) := of_none rfl
theorem confirmationWindowExpiry (place : Nat) (c : Nat) : Statement (.confirmationWindowExpiry place c) := of_none rfl
theorem cardPut (p : Port) (f : Frame) : Statement (.cardPut p f) := of_some rfl rfl fun w => w
theorem cardPutRecordStep : Statement .cardPutRecordStep := of_none rfl
theorem cardDelete (p : Port) (f : Frame) : Statement (.cardDelete p f) := of_some rfl rfl fun w => w
theorem cardDeleteRecordStep : Statement .cardDeleteRecordStep := of_none rfl
theorem cardGet (p : Port) (f : Frame) : Statement (.cardGet p f) := of_some rfl rfl fun w => w
theorem cardNext (p : Port) (f : Frame) : Statement (.cardNext p f) := of_some rfl rfl fun w => w
theorem watchSet (p : Port) (f : Frame) : Statement (.watchSet p f) := of_some rfl rfl fun w => w
theorem watchClear (p : Port) (f : Frame) : Statement (.watchClear p f) := of_some rfl rfl fun w => w
theorem watchList (p : Port) (f : Frame) : Statement (.watchList p f) := of_some rfl rfl fun w => w
theorem fractionRules (p : Port) (f : Frame) : Statement (.fractionRules p f) := of_some rfl rfl fun w => w
theorem stationDefine (p : Port) (f : Frame) : Statement (.stationDefine p f) := of_some rfl rfl fun w => w
theorem stationRead (p : Port) (f : Frame) : Statement (.stationRead p f) := of_some rfl rfl fun w => w
theorem containerSetup (p : Port) (f : Frame) : Statement (.containerSetup p f) := of_some rfl rfl fun w => w
theorem containerRead (p : Port) (f : Frame) : Statement (.containerRead p f) := of_some rfl rfl fun w => w
theorem measureNow (p : Port) (f : Frame) : Statement (.measureNow p f) := of_some rfl rfl fun w => w
theorem setClock (p : Port) (f : Frame) : Statement (.setClock p f) := of_some rfl rfl fun w => w
theorem forceLock (p : Port) (f : Frame) : Statement (.forceLock p f) := of_some rfl rfl fun w => w
theorem forceRelease (p : Port) (f : Frame) : Statement (.forceRelease p f) := of_some rfl rfl fun w => w
theorem forceCancel (p : Port) (f : Frame) : Statement (.forceCancel p f) := of_some rfl rfl fun w => w
theorem listAdd (p : Port) (f : Frame) : Statement (.listAdd p f) := of_some rfl rfl fun w => w
theorem listRemove (p : Port) (f : Frame) : Statement (.listRemove p f) := of_some rfl rfl fun w => w
theorem listRead (p : Port) (f : Frame) : Statement (.listRead p f) := of_some rfl rfl fun w => w
theorem roundOpen (p : Port) (f : Frame) : Statement (.roundOpen p f) := of_some rfl rfl fun w => w
theorem roundClose (p : Port) (f : Frame) : Statement (.roundClose p f) := of_some rfl rfl fun w => w
theorem liftStart (p : Port) (f : Frame) : Statement (.liftStart p f) := of_some rfl rfl fun w => w
theorem unblock (p : Port) (f : Frame) : Statement (.unblock p f) := of_some rfl rfl fun w => w
theorem integrityMask (p : Port) (f : Frame) : Statement (.integrityMask p f) := of_some rfl rfl fun w => w
theorem inputSetup (p : Port) (f : Frame) : Statement (.inputSetup p f) := of_some rfl rfl fun w => w
theorem eventBinding (p : Port) (f : Frame) : Statement (.eventBinding p f) := of_some rfl rfl fun w => w
theorem eventsFetch (p : Port) (f : Frame) : Statement (.eventsFetch p f) := of_some rfl rfl fun w => w
theorem flagsClear (p : Port) (f : Frame) : Statement (.flagsClear p f) := of_some rfl rfl fun w => w
theorem tuning (p : Port) (f : Frame) : Statement (.tuning p f) := of_some rfl rfl fun w => w
theorem ident (p : Port) (f : Frame) : Statement (.ident p f) := of_some rfl rfl fun w => w
theorem status (p : Port) (f : Frame) : Statement (.status p f) := of_some rfl rfl fun w => w
theorem restart (p : Port) (f : Frame) : Statement (.restart p f) := of_some rfl rfl fun w => w
theorem setModeConfigure (p : Port) (f : Frame) : Statement (.setModeConfigure p f) := of_some rfl rfl (fun w => by simp only [Instr.wellFormed, Bool.and_eq_true] at w; exact w.1)
theorem setModeOperate (p : Port) (f : Frame) : Statement (.setModeOperate p f) := of_some rfl rfl (fun w => by simp only [Instr.wellFormed, Bool.and_eq_true] at w; exact w.1)
theorem setModeSupervise (p : Port) (f : Frame) : Statement (.setModeSupervise p f) := of_some rfl rfl (fun w => by simp only [Instr.wellFormed, Bool.and_eq_true] at w; exact w.1)
theorem continueSegment (p : Port) (f : Frame) : Statement (.continueSegment p f) := of_some rfl rfl fun w => w
theorem unknownRequestKind (p : Port) (kind : Byte) (f : Frame) : Statement (.unknownRequestKind p kind f) := of_none rfl
theorem busyFrameDiscard (p : Port) (body : List Byte) : Statement (.busyFrameDiscard p body) := of_none rfl
theorem frameLengthInvalid (p : Port) (n : Byte) : Statement (.frameLengthInvalid p n) := of_none rfl
theorem frameGapTimeout (p : Port) : Statement (.frameGapTimeout p) := of_none rfl
theorem replySent (p : Port) : Statement (.replySent p) := of_none rfl
theorem unlock (p : Port) (f : Frame) : Statement (.unlock p f) := of_some rfl rfl fun w => w
theorem serviceEnd (p : Port) (f : Frame) : Statement (.serviceEnd p f) := of_some rfl rfl fun w => w
theorem inactivityTimerExpiry : Statement .inactivityTimerExpiry := of_none rfl
theorem serviceClear (p : Port) (f : Frame) : Statement (.serviceClear p f) := of_some rfl rfl fun w => w
theorem serviceCode (p : Port) (f : Frame) : Statement (.serviceCode p f) := of_some rfl rfl fun w => w

end Sys2Proof.Laws.KindFits
end

