-- ==== Sys2Proof/Laws/Requests.lean ====
section
/-!
SUPPORT. What taking a request does: one lemma for each outcome of the tests of R182 and R183.
-/
namespace Sys2Proof.Machine

theorem frameChecks_request (kind : Byte) (ps : List Byte) : frameChecks kind (request kind ps) = true := by simp [frameChecks, request]

@[simp] theorem request_params (kind : Byte) (ps : List Byte) : (request kind ps).params = ps := rfl

/-- A busy port discards the frame. -/
theorem takeRequest_busy {s : State} {p : Port} (kind : Byte) (f : Frame) (owner : State → State) (h : (s.port p).busy = true) :
    s.takeRequest p kind f owner = s.receiverIdle p := by simp [State.takeRequest, h]

/-- A frame with a wrong check byte is answered CHECK. -/
theorem takeRequest_check {s : State} {p : Port} {kind : Byte} {f : Frame} (owner : State → State) (h : (s.port p).busy = false)
    (hc : frameChecks kind f = false) :
    s.takeRequest p kind f owner = (s.updPort p fun q => { q with receiver := .idle, busy := true }).reply p kind .check [] := by
  simp [State.takeRequest, h, hc]

/-- What a request that is not CONTINUE hands its owner is the state `taken`. -/
theorem taken_eq (s : State) (p : Port) :
    State.dropRemainder p (State.noteActivity p (s.updPort p fun q => { q with receiver := .idle, busy := true })) = s.taken p := by
  cases p with
  | gateway => simp [State.noteActivity, State.dropRemainder, State.updPort, State.taken]
  | service =>
    by_cases h : s.grant.state = .granted
    · simp [State.noteActivity, State.dropRemainder, State.updPort, State.updGrant, State.taken, Config.inactivityTime, h]
    · simp [State.noteActivity, State.dropRemainder, State.updPort, State.taken, h]

/-- The tests read the mode and the state of the service port alone. -/
theorem refusal_congr {s t : State} (p : Port) (kind : Byte) (ps : List Byte) (hm : t.mode = s.mode) (hg : t.grant.state = s.grant.state) :
    t.refusal p kind ps = s.refusal p kind ps := by unfold State.refusal; rw [hm, hg]

theorem refusal_noted (s : State) (p : Port) (kind : Byte) (ps : List Byte) :
    State.refusal p kind ps (State.noteActivity p (s.updPort p fun q => { q with receiver := .idle, busy := true })) = s.refusal p kind ps := by
  apply refusal_congr
  · unfold State.noteActivity; split <;> simp
  · unfold State.noteActivity; split <;> simp [State.updGrant]

/-- A request that fails a later test is answered with that test's code. -/
theorem takeRequest_refused {s : State} {p : Port} {kind : Byte} {f : Frame} (owner : State → State) {code : ResultCode}
    (h : (s.port p).busy = false) (hc : frameChecks kind f = true) (hr : s.refusal p kind f.params = some code) :
    s.takeRequest p kind f owner = (s.taken p).reply p kind code [] := by
  simp [State.takeRequest, h, hc, refusal_noted, hr, taken_eq]

/-- A request other than CONTINUE that passes every test is handed to its owner. -/
theorem takeRequest_served {s : State} {p : Port} {kind : Byte} {f : Frame} (owner : State → State)
    (h : (s.port p).busy = false) (hc : frameChecks kind f = true) (hr : s.refusal p kind f.params = none) (hk : kind ≠ 7) :
    s.takeRequest p kind f owner = owner (s.taken p) := by
  simp only [State.takeRequest, h, hc, refusal_noted, hr, if_neg hk]
  simp [taken_eq]

/-- On a ready port, a request whose kind, length, port and mode are right passes the tests. -/
theorem refusal_ready {s : State} {p : Port} {kind : Byte} {ps : List Byte} {r : RequestRule} (h : Ready s p)
    (hr : requestRule kind = some r) (hf : r.fits ps = true) (hp : r.onPort p = true) (hm : r.inMode s.mode = true) :
    s.refusal p kind ps = none := by
  obtain ⟨_, hg⟩ := h
  cases p with
  | gateway => simp [State.refusal, hr, hf, hp, hm]
  | service => simp [State.refusal, hg rfl, hr, hf, hp, hm]

/-- A well-formed request on a ready port reaches its owner. -/
theorem takeRequest_ready {s : State} {p : Port} {kind : Byte} {ps : List Byte} {r : RequestRule} (owner : State → State) (h : Ready s p)
    (hr : requestRule kind = some r) (hf : r.fits ps = true) (hp : r.onPort p = true) (hm : r.inMode s.mode = true) (hk : kind ≠ 7) :
    s.takeRequest p kind (request kind ps) owner = owner (s.taken p) :=
  takeRequest_served owner h.1 (frameChecks_request kind ps) (refusal_ready h hr hf hp hm) hk

/-! ### What `taken` leaves as it was -/

@[simp] theorem taken_pending (s : State) (p : Port) : (s.taken p).pending = s.pending := by cases p <;> rfl
@[simp] theorem taken_clock (s : State) (p : Port) : (s.taken p).clock = s.clock := by cases p <;> rfl
@[simp] theorem taken_mode (s : State) (p : Port) : (s.taken p).mode = s.mode := by cases p <;> rfl
@[simp] theorem taken_startKind (s : State) (p : Port) : (s.taken p).startKind = s.startKind := by cases p <;> rfl
@[simp] theorem taken_stations (s : State) (p : Port) : (s.taken p).stations = s.stations := by cases p <;> rfl
@[simp] theorem taken_bus (s : State) (p : Port) : (s.taken p).bus = s.bus := by cases p <;> rfl
@[simp] theorem taken_directory (s : State) (p : Port) : (s.taken p).directory = s.directory := by cases p <;> rfl
@[simp] theorem taken_watch (s : State) (p : Port) : (s.taken p).watch = s.watch := by cases p <;> rfl
@[simp] theorem taken_waiting (s : State) (p : Port) : (s.taken p).waiting = s.waiting := by cases p <;> rfl
@[simp] theorem taken_collection (s : State) (p : Port) : (s.taken p).collection = s.collection := by cases p <;> rfl
@[simp] theorem taken_round (s : State) (p : Port) : (s.taken p).round = s.round := by cases p <;> rfl
@[simp] theorem taken_ops (s : State) (p : Port) : (s.taken p).ops = s.ops := by cases p <;> rfl
@[simp] theorem taken_actions (s : State) (p : Port) : (s.taken p).actions = s.actions := by cases p <;> rfl
@[simp] theorem taken_bindings (s : State) (p : Port) : (s.taken p).bindings = s.bindings := by cases p <;> rfl
@[simp] theorem taken_report (s : State) (p : Port) : (s.taken p).report = s.report := by cases p <;> rfl
@[simp] theorem taken_tuning (s : State) (p : Port) : (s.taken p).tuning = s.tuning := by cases p <;> rfl
@[simp] theorem taken_grantState (s : State) (p : Port) : (s.taken p).grant.state = s.grant.state := by
  cases p
  · rfl
  · simp only [State.taken]; split <;> rfl

@[simp] theorem taken_container? (s : State) (p : Port) (c : Nat) : (s.taken p).container? c = s.container? c := by cases p <;> rfl
@[simp] theorem taken_station? (s : State) (p : Port) (t : Nat) : (s.taken p).station? t = s.station? t := by cases p <;> rfl
@[simp] theorem taken_opOf (s : State) (p : Port) (c : Nat) : (s.taken p).opOf c = s.opOf c := by cases p <;> rfl
@[simp] theorem taken_entry? (s : State) (p : Port) (c : Nat) : (s.taken p).entry? c = s.entry? c := by cases p <;> rfl
@[simp] theorem taken_card? (s : State) (p : Port) (id : CardId) : (s.taken p).card? id = s.card? id := by cases p <;> rfl
@[simp] theorem taken_checkContainer (s : State) (p : Port) (c : Nat) : (s.taken p).checkContainer c = s.checkContainer c := by cases p <;> rfl
@[simp] theorem taken_checkStation (s : State) (p : Port) (t : Nat) : (s.taken p).checkStation t = s.checkStation t := by cases p <;> rfl

/-- A request that names a container in use reaches its owner with that container. -/
theorem onContainer_inUse {s : State} {p : Port} {kind : Byte} {ps : List Byte} {k : Container} (owner : Nat → Container → State → State)
    (hc : byteAt ps 0 < 64) (hk : s.container? (byteAt ps 0) = some k) :
    s.onContainer p kind ps owner = owner (byteAt ps 0) k s := by
  simp [State.onContainer, State.checkContainer, hk, Nat.not_lt.2 (Nat.le_of_lt_succ hc)]

end Sys2Proof.Machine
end

