-- ==== Sys2Proof/Tests/Slice0.lean ====
section
/-!
SUPPORT. The author's own tests: what well-formedness refuses, values from the manual's tables and worked sequences (each comment names its source),
and, for every statement with hypotheses, a state and operands that meet them.
-/
namespace Sys2Proof.Tests
open Sys2Proof.Machine

/-! ### Helpers -/

/-- The state after a command. -/
def after (c : Instr) (s : State) : State :=
  match exec c s with
  | .next t => t
  | _ => s

/-- A request frame from numbers. -/
def rq (kind : Nat) (params : List Nat) : Frame := request (byteOf kind) (params.map byteOf)

/-- A filter that has settled on a value. -/
def settled (b : Bool) : Filter := { previous := some b, accepted := some b }

/-- The setup of the worked sequences of chapters 2 and 7. -/
def setup : Setup where
  emptyDistance := 2400
  fullDistance := 400
  perWeight := 40
  alpha := 4
  confirmations := 2
  tNotice := 700
  tFull := 900
  tLock := 980
  hysteresis := 30
  tEmpty := 150
  passNotice := .up
  passFull := .up
  passLock := .both

/-- A container with that setup, a GOOD sensor and S = 7200 in LOW, its contacts accepted at 1. -/
def box : Container :=
  { Container.fresh .residual with
    latched := some setup
    est :=
      { Estimator.fresh with
        smoothed := some 7200, credited := 7200, level := 450, rate := 480, baseline := some 6900, band := some .low, sensor := .good }
    contacts := .all (settled true) }

/-- A station with these containers. -/
def column (m : Mode) (ks : List Container) : Station where
  node := 9
  online := true
  misses := 0
  inputs := .all .cleared
  revision := 40
  acknowledged := some 40
  resend := false
  inputSetup := InputSetup.default
  flags := .clear
  status := if m = .configure then .suspended else .armed
  slots := ks

/-- A part in this mode on day 27, with the one station 5 and these containers, and an open service port. -/
def site (m : Mode) (ks : List Container) : State :=
  { State.reset with
    mode := m
    clock := { day := 27, second := 86385, unset := false, boundaryDue := false }
    stations := (List.replicate 16 (none : Option Station)).set 5 (some (column m ks))
    grant := { state := .granted, failures := 0, code := some 7, inactivity := some 600 } }

/-- Card K of section 4.9. -/
def cardK : Card where
  id := 75
  cls := .resident
  suspended := false
  home := 0xFFFF
  fractions := 31
  allowance := 4
  used := 4
  reserved := 0
  period := 3
  expiry := none
  weight := none

/-- A part with this directory. -/
def withCards (cs : List Card) (s : State) : State := { s with directory := { s.directory with cards := cs } }

/-- An operation of container 20. -/
def lift (ph : Phase) (timer : Timer) : Operation where
  container := 20
  phase := ph
  start := .host
  order := 0
  timer := timer
  attempts := 1
  seedTaken := false
  verified := none
  depositsAtSeed := none

/-- An open round. -/
def round : Round where
  stations := 0xFFFF
  capacity := 5
  claims := 1
  nEmptied := 0
  nPartial := 0
  nAbandoned := 0
  nFault := 0
  started := 0

/-- A CLAIMED entry of container 20. -/
def entry : Entry := { container := 20, reason := .full, claimed := true, day := 27, second := 0, forecast := 0 }

/-- A part in OPERATE with this operation in slot 0, its entry claimed in the open round. -/
def lifting (op : Operation) (k : Container) : State :=
  { site .operate [k] with ops := [some op, none, none, none], round := some round, collection := [entry] }

/-! ### Well-formedness refuses what no command of the part can be -/

theorem test_wellFormed_container : (Instr.lampHoldExpiry 64).wellFormed = false ∧ (Instr.lampHoldExpiry 63).wellFormed = true := by decide
theorem test_wellFormed_container_of_operation : (Instr.attemptTimerExpiry 64).wellFormed = false := by decide
theorem test_wellFormed_container_of_part : (Instr.confirmationWindowExpiry 0 64).wellFormed = false := by decide
theorem test_wellFormed_frame_length :
    (Instr.cardPut .gateway { params := List.replicate 240 0, check := 0 }).wellFormed = false ∧
    (Instr.cardPut .gateway { params := List.replicate 239 0, check := 0 }).wellFormed = true := by decide +kernel
theorem test_wellFormed_mode_target :
    (Instr.setModeOperate .gateway (rq 3 [2])).wellFormed = false ∧ (Instr.setModeOperate .gateway (rq 3 [1])).wellFormed = true := by decide
theorem test_wellFormed_unknown_kind : (Instr.unknownRequestKind .gateway 39 (rq 39 [])).wellFormed = false ∧
    (Instr.unknownRequestKind .gateway 40 (rq 40 [])).wellFormed = true := by decide
theorem test_wellFormed_reply_length : (Instr.pollReply [0x5A, 0, 0, 0]).wellFormed = false := by decide
theorem test_wellFormed_discarded_body : (Instr.busyFrameDiscard .service []).wellFormed = false := by decide
theorem test_wellFormed_length_byte : (Instr.frameLengthInvalid .service 240).wellFormed = false ∧
    (Instr.frameLengthInvalid .service 241).wellFormed = true := by decide

/-! ### Values from the manual -/

/-- R10: a POLL of node 7 sums to 0 with its check byte (7 + 3 + 0 + 246 = 256). -/
theorem test_poll_frame : busFrame 7 3 [] = [0x5A, 0x07, 0x03, 0x00, 0xF6] := by decide
/-- R180: the check byte of SERVICE_END is length 1 exclusive-or kind 20. -/
theorem test_request_check : (rq 20 []).check = 0x15 := by decide
/-- Section 1.4: HC reported 1, 1, 0, 1, 0, 0 from a cleared filter. -/
theorem test_filter_sequence :
    (([true, true, false, true, false, false] : List Bool).foldl (fun x b => (x.1 ++ [x.2.acceptance b], x.2.report b))
        (([] : List Acceptance), Filter.cleared)) =
      ([.none, .initial, .none, .none, .none, .changed], { previous := some false, accepted := some false }) := by decide
/-- Section 1.5: the two change requests of an admission take the revision from 40 to 42. -/
theorem test_revision_of_admission :
    (((withCards [{ cardK with used := 0 }] (site .operate [box])).present 20 75).station? 5).map Station.revision = some 42 := by
  decide +kernel
/-- Section 2.7: an echo of 1350 mm gives S = 7500, L = 469. -/
theorem test_echo_section_2_7 :
    (box.est.absorb setup none (setup.levelAt 1350)).smoothed = some 7500 ∧ (box.est.absorb setup none (setup.levelAt 1350)).level = 469 := by
  decide +kernel
/-- Section 2.7: the hour boundary after three deposits gives R = 540 and H = 13. -/
theorem test_hour_section_2_7 :
    let e := ({ box.est with smoothed := some 7500, credit := 120, credited := 7620, level := 476 }).stage4 setup
    e.rate = 540 ∧ e.baseline = some 7620 ∧ e.forecast = 13 := by decide +kernel
/-- Section 2.8: the third deposit, the floor echo and the overfill echo. -/
theorem test_arithmetic_section_2_8 :
    (({ box.est with smoothed := some 15800, credit := 120 }).addDeposit setup 4).credited = 16000 ∧
    smoothTo 4 (setup.levelAt 2550) 8557 = 6418 ∧ smoothTo 4 (setup.levelAt 380) 6418 = 8813 := by decide +kernel
/-- Section 2.8: the limits of the forecast. -/
theorem test_forecast_limits :
    hoursToFull 1600 10 900 = 254 ∧ hoursToFull 1600 0 900 = 255 ∧ hoursToFull 14400 405 900 = 0 := by decide
/-- Section 2.8: the fourth rejection in a row makes the sensor FAULTY. -/
theorem test_fourth_rejection :
    (((site .operate [{ box with est := { box.est with rejected := 3 } }]).rejectSample 20).container? 20).map
      (fun k => (k.est.rejected, k.est.sensor, k.flags.sensorFault)) = some (4, .faulty, true) := by decide +kernel
/-- The table of R51, with the default thresholds. -/
theorem test_candidates :
    setup.candidate .low 698 = .low ∧ setup.candidate .low 700 = .notice ∧ setup.candidate .full 870 = .full ∧
    setup.candidate .full 865 = .notice ∧ setup.candidate .lockout 949 = .full ∧ setup.candidate .notice 669 = .low := by decide
/-- Section 3.8: a verification seed from LOCKOUT crosses three thresholds downward and reports T_lock alone. -/
theorem test_crossings : crossings .lockout .low = [3, 2, 1] ∧ PassageMode.both.reports false = true ∧ PassageMode.up.reports false = false := by
  decide
/-- Section 4.7: card B with allowance 5 is RANGE while a unit is reserved, OK after its return. -/
theorem test_put_result :
    let b : Card := { cardK with allowance := 6, used := 5, reserved := 1 }
    putResult (cardFormAt ({ b with allowance := 5 }).bytes 0) [b] = .range ∧
    putResult (cardFormAt ({ b with allowance := 5 }).bytes 0) [b.giveBack 1] = .ok := by decide +kernel
/-- Section 4.9: QUOTA in period 3, granted after the rollover in period 4. -/
theorem test_quota_and_rollover :
    cardK.reserve 3 1 = cardK ∧ (cardK.rollover 3).reserveRefusal 1 = some .quota ∧
    cardK.reserve 4 1 = { cardK with used := 0, reserved := 1, period := 4 } := by decide
/-- Section 5.9: a total of 18 is within an allowance of 18, 6 reserved units are MULTIPLE. -/
theorem test_business_card :
    ({ cardK with allowance := 18, used := 14, reserved := 2 }).reserveRefusal 2 = none ∧
    ({ cardK with allowance := 18, used := 12, reserved := 4 }).reserveRefusal 2 = some .multiple ∧
    ({ cardK with allowance := 18, used := 18, reserved := 0 }).reserveRefusal 2 = some .quota := by decide
/-- Section 5.10: FORCE_RELEASE, and FORCE_CANCEL while the hatch is OPEN. -/
theorem test_forced_hatch :
    ((after (.forceRelease .gateway (rq 37 [20])) (site .supervise [box])).container? 20).map
      (fun k => (k.hatch.state, k.hatch.force, k.hatch.closeAction, k.outputs.lock)) =
        some (.released, .release, .returnToReleased, .release) ∧
    ((after (.forceCancel .gateway (rq 38 [20]))
        (site .supervise [{ box with hatch := { box.hatch with state := .opened, force := .release, closeAction := .returnToReleased } }])).container?
      20).map (fun k => (k.hatch.state, k.hatch.force, k.hatch.closeAction)) = some (.opened, .none, .lock) := by decide +kernel
/-- The list of section 6.5. -/
def nightList : List Entry :=
  [ { container := 40, reason := .lockout, claimed := false, day := 310, second := 4200, forecast := 0 },
    { container := 12, reason := .partialLift, claimed := false, day := 308, second := 8400, forecast := 5 },
    { container := 7, reason := .full, claimed := false, day := 310, second := 72900, forecast := 0 },
    { container := 14, reason := .full, claimed := false, day := 310, second := 81600, forecast := 0 },
    { container := 55, reason := .inspection, claimed := false, day := 309, second := 39900, forecast := 255 },
    { container := 30, reason := .host, claimed := false, day := 310, second := 32400, forecast := 30 },
    { container := 21, reason := .forecast, claimed := false, day := 310, second := 82800, forecast := 9 },
    { container := 33, reason := .forecast, claimed := false, day := 310, second := 64800, forecast := 11 } ]
/-- Section 6.5: the eight entries stand in list order. -/
theorem test_list_order : nightList.Pairwise (fun a b => a.before b = true) := by decide
/-- Section 6.5: ROUND_OPEN with k = 5 and stations 1, 3, 5, 7, 10 claims containers 40, 12, 7, 14 and 30. -/
theorem test_round_claims :
    (({ State.reset with collection := nightList }).claimable (BitVec.ofNat 16 0x04AA) 5).map Entry.container = [40, 12, 7, 14, 30] := by decide
/-- Section 6.6: of 265 data bytes the first reply carries 236 and the remainder holds 29. -/
theorem test_segmented_list :
    ((({ State.reset with collection := List.replicate 20 entry }).reply .gateway 29 .ok (List.replicate 265 0)).gateway.remainder.map
      fun (r : Remainder) => r.rest.length) = some 29 := by decide +kernel
/-- Section 7.10: the seed of attempt 2, and the smoothed sample of attempt 3 with its level of 144. -/
theorem test_verification_samples :
    setup.levelAt 2050 = 175 ∧ smoothTo 4 (setup.levelAt 2300) 2800 = 2300 ∧
    (({ box.est with smoothed := some 2300 }).stage3).level = 144 ∧ smoothTo 4 (setup.levelAt 2150) 2800 = 2600 := by decide +kernel
/-- Section 7.10: an answer of 144 at attempt 3 ends the operation EMPTIED and removes the entry; one of 163 ends it PARTIAL. -/
theorem test_verification_outcomes :
    let s := lifting { lift .returned none with attempts := 3 } box
    ((s.takeAnswer 20 (.accepted 144 false 1211)).round.map Round.nEmptied,
      (s.takeAnswer 20 (.accepted 144 false 1211)).collection) = (some 1, []) ∧
    ((s.takeAnswer 20 (.accepted 163 false 1211)).collection.map fun e => (e.reason, e.claimed)) = [(.partialLift, false)] := by decide +kernel
/-- Section 8.2: the expected pattern of an OPEN hatch, and of UNLATCHED. -/
theorem test_expected_pattern :
    expectedPattern none { HatchRecord.rest with state := .opened } =
      { hc := some false, hl := some false, ll := some true, se := some true, pd := some true } ∧
    (expectedPattern (some .unlatched) HatchRecord.rest).ll = some false := by decide
/-- Section 8.8: a pried hatch at an ARMED station makes it UNARMED and sets the INTEGRITY flag. -/
theorem test_pried_hatch :
    let s := (site .supervise [{ box with contacts := { box.contacts with hc := settled false } }]).compare 5 .armed true
    ((s.station? 5).map Station.status, (s.container? 20).map fun k => k.flags.integrity) = (some .unarmed, some true) := by decide +kernel
/-- Section 9.5, in small: a full queue of priorities 3 and 1 loses a posting of priority 1 and the oldest of them to one of priority 7. -/
theorem test_full_queue :
    let r (p n : Nat) : Record :=
      { event := { (State.reset.event .doorInput none none .stationOnline) with priority := p }, result := .none, notEngaged := 0,
        seq := BitVec.ofNat 16 n }
    let q : Report := { queue := r 3 0 :: ((List.range 63).map fun i => r 1 (i + 1)), overflowed := false, nextSeq := 902, attn := false }
    let e (p : Nat) : Event := { (State.reset.event .doorInput none none .stationOnline) with priority := p }
    (q.post 4 (e 1) .none 0).queue = q.queue ∧ (q.post 4 (e 1) .none 0).nextSeq = 903 ∧
    ((q.post 4 (e 7) .none 0).queue.map fun x => x.seq).take 3 = [902, 0, 2] ∧ (q.post 4 (e 7) .none 0).attn = true := by decide +kernel
/-- Section 10.6: three wrong codes bar the port; SERVICE_CLEAR makes it RESTRICTED again. -/
theorem test_unlock :
    let s := { site .operate [box] with grant := { state := .restricted, failures := 2, code := some 7, inactivity := none } }
    (after (.unlock .service (rq 19 [0, 0, 0, 0, 0, 0, 0, 8])) s).grant = { s.grant with state := .barred, failures := 3 } ∧
    (after (.unlock .service (rq 19 [0, 0, 0, 0, 0, 0, 0, 7])) s).grant =
      { s.grant with state := .granted, failures := 0, inactivity := some 600 } ∧
    (after (.serviceClear .gateway (rq 18 [])) { s with grant := { s.grant with state := .barred, failures := 3 } }).grant =
      { s.grant with state := .restricted, failures := 0 } := by decide +kernel
/-- R6: the second of day turns over at 86400, the day number after 65535. -/
theorem test_clock :
    ({ day := 27, second := 86399, unset := false, boundaryDue := false } : Clock).tick =
      { day := 28, second := 0, unset := false, boundaryDue := true } ∧
    ({ day := 65535, second := 86399, unset := true, boundaryDue := false } : Clock).tick.day = 0 := by decide
/-- R187: the capacities of IDENT are 16 stations, 64 containers, 8192 records, 16 and 8 entries, 64 list entries, 4 operations, 64 events. -/
theorem test_ident_data :
    (State.reset.identData .gateway).drop 6 = [16, 64, 0x20, 0x00, 16, 8, 64, 4, 64, 0, 0] := by decide
/-- R82: a frame for CARD_GET on the RESTRICTED service port is answered DENIED (code 18 of section 10.2). -/
theorem test_denied :
    (after (.cardGet .service (rq 21 [0, 0, 0, 0, 0, 0, 1])) State.reset).service.reply = some [0xA5, 3, 21, 18, 0, 4] := by decide +kernel

/-! ### Witnesses: for each statement with hypotheses, a state and operands that meet them -/

theorem site_station {m : Mode} {ks : List Container} {t : Nat} {st : Station} (h : (site m ks).station? t = some st) :
    t = 5 ∧ st = column m ks := by
  have hs : (site m ks).stations = (List.replicate 16 (none : Option Station)).set 5 (some (column m ks)) := rfl
  simp only [State.station?, hs, List.getElem?_set, List.length_replicate, List.getElem?_replicate] at h
  split at h
  · rename_i h5
    simp at h
    exact ⟨h5.symm, h.symm⟩
  · split at h <;> simp at h

theorem site_container {m : Mode} {ks : List Container} {c : Nat} {k : Container} (h : (site m ks).container? c = some k) :
    c / 4 = 5 ∧ ks[c % 4]? = some k := by
  unfold State.container? at h
  split at h
  · rename_i st hst
    obtain ⟨h5, rfl⟩ := site_station hst
    exact ⟨h5, h⟩
  · cases h

theorem site_single {m : Mode} {k k' : Container} {c : Nat} (h : (site m [k]).container? c = some k') : c = 20 ∧ k' = k := by
  obtain ⟨h5, hk⟩ := site_container h
  have h0 : c % 4 = 0 := by
    rcases Nat.eq_zero_or_pos (c % 4) with h0 | h0
    · exact h0
    · rw [List.getElem?_eq_none (by show 1 ≤ c % 4; exact h0)] at hk
      cases hk
  rw [h0] at hk
  simp at hk
  exact ⟨by omega, hk.symm⟩

theorem site_ready (m : Mode) (ks : List Container) (p : Port) : Ready (site m ks) p := by cases p <;> exact ⟨rfl, fun _ => rfl⟩

theorem witness_StepTakesFrontCommand :
    ({ site .operate [box] with pending := [.clockTick, .warmStart] }).pending = .clockTick :: [.warmStart] ∧
    (site .operate [box]).pending = [] := ⟨rfl, rfl⟩

theorem witness_ReportKept :
    ReportOk { site .operate [box] with pending := [.warmStart] } ∧ ∃ t, step { site .operate [box] with pending := [.warmStart] } = .next t :=
  ⟨by unfold ReportOk; decide +kernel, _, rfl⟩

/-- A list of two containers in use. -/
def twoEntries : List Entry := [entry, { container := 21, reason := .host, claimed := false, day := 27, second := 0, forecast := 30 }]

theorem witness_TablesAndListKept :
    TablesOk { withCards [cardK] (site .operate [box, box]) with watch := [{ id := 5, action := .hold }], pending := [.clockTick] } ∧
    ListOk { site .operate [box, box] with collection := twoEntries, pending := [.clockTick] } ∧
    ∃ t, step { site .operate [box, box] with collection := twoEntries, pending := [.clockTick] } = .next t :=
  ⟨by simp [TablesOk, withCards, cardK], by unfold ListOk; decide +kernel, _, rfl⟩

/-- A lift in UNLATCHED or LIFTED with the latch at RELEASE is a sound state. -/
theorem lifting_outputsOk (ph : Phase) (t : Timer) (h : ph = .unlatched ∨ ph = .lifted) :
    OutputsOk (lifting (lift ph t) { box with outputs := { box.outputs with latch := .release } }) := by
  have hc : ∀ c k, (lifting (lift ph t) { box with outputs := { box.outputs with latch := .release } }).container? c = some k →
      c = 20 ∧ k = { box with outputs := { box.outputs with latch := .release } } := fun c k hk => site_single hk
  refine ⟨⟨rfl, ?_, ?_, ?_, ?_, ?_, ?_, ?_, ?_⟩, ?_, ?_⟩
  · simp [State.operations, lifting]
  · simp [State.operations, lifting]
  · simp [State.operations, lifting]
  · simp [State.operations, lifting, lift]
  · simp [State.operations, lifting, lift, entry]
  · intro hm; cases hm
  · intro op _ _ k hk
    obtain ⟨-, rfl⟩ := hc _ _ hk
    rfl
  · simp [lifting]
  · intro hm; cases hm
  · intro c k hk
    obtain ⟨rfl, rfl⟩ := hc _ _ hk
    refine ⟨fun hf => absurd hf (by decide), by decide, ?_⟩
    rcases h with rfl | rfl
    · exact ⟨fun _ => .inl rfl, fun _ => rfl⟩
    · exact ⟨fun _ => .inr rfl, fun _ => rfl⟩

theorem witness_OutputsKept :
    OutputsOk (lifting (lift .unlatched (some 300)) { box with outputs := { box.outputs with latch := .release } }) ∧
    ∃ t, step (lifting (lift .unlatched (some 300)) { box with outputs := { box.outputs with latch := .release } }) = .next t :=
  ⟨lifting_outputsOk _ _ (.inl rfl), _, rfl⟩

theorem witness_PatternFollowsOutputs :
    OutputsOk (lifting (lift .lifted (some 900)) { box with outputs := { box.outputs with latch := .release } }) ∧
    ((lifting (lift .lifted (some 900)) { box with outputs := { box.outputs with latch := .release } }).container? 20).isSome = true ∧
    (lifting (lift .lifted (some 900)) { box with outputs := { box.outputs with latch := .release } }).phaseOf 20 = some .lifted ∧
    (lifting (lift .unlatched (some 300)) { box with outputs := { box.outputs with latch := .release } }).phaseOf 20 ≠ some .lifted :=
  ⟨lifting_outputsOk _ _ (.inr rfl), by decide, by decide, by decide⟩

/-- A hatch RELEASED for card K. -/
def admitted : Container :=
  { box with
    hatch := { box.hatch with state := .released, admission := some { card := 75, weight := 1, charged := true }, window := some 20 }
    outputs := { box.outputs with lock := .release } }

theorem witness_AccountsKept :
    AccountsOk (withCards [{ cardK with used := 3, reserved := 1 }] (site .operate [admitted])) ∧
    ∃ t, step { withCards [{ cardK with used := 3, reserved := 1 }] (site .operate [admitted]) with pending := [.releaseWindowExpiry 20] } =
      .next t := by
  have hc : ∀ c k, (withCards [{ cardK with used := 3, reserved := 1 }] (site .operate [admitted])).container? c = some k →
      c = 20 ∧ k = admitted := fun c k hk => site_single hk
  refine ⟨⟨by simp [withCards], ?_, by simp [withCards, cardK], ?_, ?_, ?_⟩, _, rfl⟩
  · intro r hr
    simp only [withCards, List.mem_singleton] at hr
    subst hr
    decide +kernel
  · intro c k a hk ha
    obtain ⟨rfl, rfl⟩ := hc _ _ hk
    cases ha
    decide +kernel
  · intro hm; cases hm
  · intro t st hst
    obtain ⟨-, rfl⟩ := site_station (m := .operate) (ks := [admitted]) hst
    decide

theorem witness_EstimatesKept : EstimatesOk (site .operate [box]) ∧ ∃ t, step { site .operate [box] with pending := [.echoTimeout 20] } = .next t := by
  refine ⟨?_, _, rfl⟩
  intro c k hk
  obtain ⟨-, rfl⟩ := site_single hk
  refine ⟨?_, ?_, ?_, by decide, by decide, by decide, by decide, ?_, by decide, by decide, by decide, by decide, by decide⟩
  · rintro x ⟨⟩; decide
  · rintro x ⟨⟩
  · rintro x ⟨⟩; decide
  · rintro x ⟨⟩; decide

theorem site_stationsOk (m : Mode) (ks : List Container) (h1 : 1 ≤ ks.length) (h4 : ks.length ≤ 4)
    (hk : ∀ k ∈ ks, k.writtenMarker = k.written.isSome ∧ (m = .configure → k.settleHL.running = false ∧ k.settleLL.running = false) ∧
      (m = .configure → k.est.periodic = none ∧ k.est.postDeposit = none ∧ k.hatch.state = .locked)) :
    StationsOk (site m ks) := by
  refine ⟨rfl, ?_⟩
  intro t st hst
  obtain ⟨-, rfl⟩ := site_station hst
  refine ⟨⟨h1, h4⟩, ?_, by simp [column], ?_⟩
  · cases m <;> simp [column, site]
  · intro k hmem
    refine ⟨(hk k hmem).1, fun hs => (hk k hmem).2.1 ?_, (hk k hmem).2.2⟩
    cases m
    · rfl
    · cases hs
    · cases hs

theorem witness_StationsAndSettingsKept :
    StationsOk (site .operate [box]) ∧ SettingsOk (site .operate [box]) ∧
    ∃ t, step { site .operate [box] with pending := [.pollReplyTimeout] } = .next t :=
  ⟨site_stationsOk _ _ (by decide) (by decide) (by decide), by unfold SettingsOk; decide +kernel, _, rfl⟩

theorem witness_RequestsInTestOrder :
    requestOf (.status .service (rq 2 [])) = some (.service, 2, rq 2 []) ∧
    (({ site .operate [box] with service := { PortState.idle with busy := true } }).port .service).busy = true ∧
    ((site .operate [box]).port .service).busy = false ∧
    (9 : Byte) ≠ checkOf [2] ∧ (rq 2 []).check = checkOf [2] ∧
    ({ site .operate [box] with grant := { (site .operate [box]).grant with state := .barred } }).grant.state = .barred ∧
    State.reset.grant.state = .restricted ∧ (2 : Byte) ≠ 1 ∧ (2 : Byte) ≠ 19 ∧
    (requestRule 2).map (fun r => r.fits [0]) = some false ∧
    (requestRule 8).map (fun r => (r.fits [1], r.onPort .service)) = some (true, false) ∧
    (requestRule 30).map (fun r => (r.fits [1], r.onPort .service, r.inMode .configure)) = some (true, true, false) ∧
    knownKind 40 = false ∧ (requestRule 39).isSome = true ∧ (9 : Nat) ∈ [3, 8, 9, 10, 22, 30, 31, 34, 35, 36, 37, 38, 39] ∧
    (requestRule 12).map (fun r => (r.fits (List.replicate 19 0), r.fits (List.replicate 18 0))) = some (true, false) := by decide +kernel

theorem witness_NumbersChecked :
    Ready (site .supervise [box]) .gateway ∧ ((requestRule 36).map fun r => r.inMode .supervise) = some true ∧
    Ready (site .configure [box]) .gateway ∧ (List.replicate 18 (0 : Byte)).length = 18 ∧
    ((requestRule 12).map fun r => r.inMode (site .configure [box]).mode) = some true ∧
    (63 : Nat) < 64 ∧ (255 : Nat) < 256 ∧ (site .supervise [box]).container? 63 = none ∧ (site .configure [box]).container? 21 = none :=
  ⟨site_ready _ _ _, by decide, site_ready _ _ _, by decide, by decide, by decide, by decide, by decide, by decide⟩

theorem witness_PortsFreed :
    (({ site .operate [box] with gateway := { PortState.idle with busy := true, reply := some [1] } }).port .gateway).reply = some [1] ∧
    (({ site .operate [box] with gateway := { PortState.idle with busy := true, reply := some [1] } }).port .gateway).restartDue = false ∧
    (({ site .operate [box] with gateway := { PortState.idle with reply := some [1], restartDue := true } }).port .gateway).restartDue = true ∧
    Ready (site .operate [box]) .service := ⟨rfl, rfl, rfl, site_ready _ _ _⟩

theorem witness_SegmentsCarrySnapshot :
    ((site .operate [box]).port .service).restartDue = false ∧ ((site .operate [box]).port .service).remainder = none ∧
    (site .operate [box]).grant.state = .granted ∧ (List.replicate 472 (0 : Byte)).length ≤ 236 * (1 + 1) ∧
    Ready { site .operate [box] with gateway := { PortState.idle with remainder := some { kind := 29, code := .ok, rest := [1] } } } .gateway ∧
    (({ site .operate [box] with gateway := { PortState.idle with remainder := some { kind := 29, code := .ok, rest := [1] } } }).port
      .gateway).remainder.isSome = true :=
  ⟨rfl, rfl, rfl, by decide +kernel, ⟨rfl, fun h => nomatch h⟩, rfl⟩

theorem witness_SegmentsCarrySnapshot_frame :
    236 < (List.replicate 237 (0 : Byte)).length ∧ ¬236 < (List.replicate 236 (0 : Byte)).length ∧ Port.service ≠ Port.gateway := by decide +kernel

theorem witness_ReadsOnlyReply :
    (State.reset.port .service).busy = false ∧ State.reset.grant.state ≠ .barred ∧ Ready (site .operate [box]) .service ∧ (15 : Nat) ≤ 15 ∧
    (15 : Nat) < 16 ∧ (254 : Nat) < 255 ∧ (20 : Nat) < 64 ∧ (site .operate [box]).container? 20 = some box ∧
    (site .operate [box]).station? 15 = none ∧ (site .operate [box]).station? 5 = some (column .operate [box]) ∧
    (column .operate [box]).slots[0]? = some box ∧ ({ site .operate [box] with collection := [entry] }).collection[0]? = some entry ∧
    ({ site .operate [box] with collection := [entry] }).container? entry.container = some box :=
  ⟨rfl, by decide, site_ready _ _ _, by decide, by decide, by decide, by decide, by decide, by decide, by decide, rfl, rfl, by decide⟩

theorem fresh_estimateOk (f : Fraction) : (Container.fresh f).EstimateOk := by simp [Container.EstimateOk, Container.fresh, Estimator.fresh]

theorem witness_ContainerRecordLayout :
    (63 : Nat) < 64 ∧ box.EstimateOk ∧ box.latched = some setup ∧ (Container.fresh .paper).EstimateOk ∧ (Container.fresh .paper).latched = none ∧
    box.est.periodic = none ∧ ({ box.est with periodic := some 7200 }).periodic = some 7200 ∧ (7200 : Nat) ≤ 7200 ∧ box.est.last = none ∧
    ({ box.est with last := some { distance := 1350, quality := 9, level := 525, day := 27, second := 0 } }).last.isSome = true :=
  ⟨by decide, witness_EstimatesKept.1 20 box (by decide), rfl, fresh_estimateOk _, rfl, rfl, rfl, by decide, rfl, rfl⟩

theorem witness_TuningApplied :
    Ready (site .operate [box]) .gateway ∧ (List.replicate 24 (1 : Byte)).length % 3 = 0 ∧ (List.replicate 24 (1 : Byte)).length ≤ 24 ∧
    (∃ x ∈ tuningPairs [9, 0, 1], x.1 = 0 ∨ 8 < x.1) ∧ (∀ x ∈ tuningPairs [1, 0, 1, 8, 0, 1], 1 ≤ x.1 ∧ x.1 ≤ 8) :=
  ⟨site_ready _ _ _, by decide, by decide, by decide, by decide⟩

/-- R186: the defaults in the reply, item by item; R185: items 1, 4 and 5 in two bytes. -/
theorem test_tuning_reply :
    (site .operate [box]).tuning.bytes = [1, 0x03, 0x84, 2, 15, 3, 20, 4, 0, 90, 5, 0x01, 0x2C, 6, 3, 7, 12, 8, 4] := by decide

theorem witness_TuningApplied_ranges :
    clampsAny [(6, 11)] = true ∧ clampsAny [(6, 10)] = false ∧ ((255 : Nat) < 256 ∧ (65535 : Nat) < 65536) := by decide

theorem witness_ClockSet :
    ((site .operate [box]).port .gateway).busy = false ∧ (65535 : Nat) ≤ 65535 ∧ (86399 : Nat) ≤ 86399 ∧ (86399 : Nat) < 86400 ∧
    (16777215 : Nat) < 16777216 := by decide

theorem witness_EventsFetched :
    ((site .operate [box]).port .gateway).busy = false ∧ (1 : Nat) ≤ 1 ∧ (8 : Nat) ≤ 8 ∧ ((8 : Nat) < 9 ∧ (255 : Nat) < 256) ∧
    ({ (State.reset.event .serviceBarred none none (.serviceBarred 3)) with priority := 7 }).priority ≤ 7 := by decide

theorem witness_StationDefined :
    Ready (site .configure [box]) .gateway ∧ (site .configure [box]).mode = .configure ∧ StationsOk (site .configure [box]) ∧ (15 : Nat) ≤ 15 ∧
    ([0, 0, 2, 4] : List Byte).length = 4 ∧ ([0] : List Byte).length = 1 ∧ (1 : Nat) ≤ 1 ∧ (31 : Nat) ≤ 31 ∧
    (∀ u st, u ≠ 15 → (site .configure [box]).station? u = some st → st.node ≠ 31) ∧
    ([0, 0, 2, 4] : List Byte).map BitVec.toNat = [Fraction.residual, .residual, .glass, .organic].map Fraction.code := by
  refine ⟨site_ready _ _ _, rfl, site_stationsOk _ _ (by decide) (by decide) (by decide), by decide, rfl, rfl, by decide, by decide, ?_, by decide⟩
  intro u st _ hst
  obtain ⟨-, rfl⟩ := site_station hst
  decide

theorem witness_StationDefined_refused :
    ((16 : Nat) < 256 ∧ 15 < (16 : Nat)) ∧ (4 < (List.replicate 5 (0 : Byte)).length ∧ (List.replicate 236 (0 : Byte)).length ≤ 236) ∧
    (31 < (32 : Nat) ∧ ([0] : List Byte) ≠ []) ∧ (∃ b ∈ ([4, 5] : List Byte), 4 < b.toNat) ∧
    (∃ u st, u ≠ 4 ∧ (site .configure [box]).station? u = some st ∧ st.node = 9) :=
  ⟨by decide, by decide +kernel, by decide, ⟨5, by decide, by decide⟩, 5, _, by decide, rfl, rfl⟩

theorem witness_SetupStored :
    Ready (site .configure [box]) .service ∧ (site .configure [box]).mode = .configure ∧ (site .configure [box]).container? 20 = some box ∧
    ({ setup with emptyDistance := 300, fullDistance := 100, tLock := 1000, tEmpty := 699 } : Setup).inRange = true ∧
    (byteOf 20 :: 0 :: bytesOf 2 299 ++ bytesOf 2 100 ++ List.replicate 13 0).length = 19 ∧
    byteAt (byteOf 20 :: 0 :: bytesOf 2 299 ++ bytesOf 2 100 ++ List.replicate 13 0) 0 = 20 ∧
    (setupOf (byteOf 20 :: 0 :: bytesOf 2 299 ++ bytesOf 2 100 ++ List.replicate 13 0)).inRange = false ∧ (65535 : Nat) < 65536 :=
  ⟨site_ready _ _ _, rfl, by decide, by decide, by decide, by decide, by decide +kernel, by decide⟩

/-- A CONTAINER_SETUP of container 20 with this presence byte, empty 2400, full 400 and these modes, its other fields all 1. -/
def setupRequest (presence modes : Nat) : List Byte :=
  [byteOf 20, byteOf presence] ++ bytesOf 2 2400 ++ bytesOf 2 400 ++ List.replicate 12 1 ++ [byteOf modes]

theorem witness_SetupStored_presence :
    (site .configure [box]).container? (byteAt (setupRequest 128 0) 0) = some box ∧ (setupRequest 128 0).length = 19 ∧
    128 ≤ byteAt (setupRequest 128 0) 1 ∧
    ((byteAt (setupRequest 64 64) 1).testBit 6 = true ∧ 64 ≤ byteAt (setupRequest 64 64) 18) ∧
    (byteAt (setupRequest 127 63) 1 < 128 ∧ byteAt (setupRequest 127 63) 18 < 64) ∧
    (byteAt (setupRequest 0 64) 1 < 128 ∧ (byteAt (setupRequest 0 64) 1).testBit 6 = false ∧ (setupOf (setupRequest 0 64)).inRange = true) ∧
    ((255 : Nat) < 256 ∧ (65535 : Nat) < 65536) := by decide +kernel

/-- R24: each bound of the setup table at its last value inside and its first outside. -/
theorem witness_SetupStored_bounds :
    ([{ setup with emptyDistance := 4000, fullDistance := 3800 }, { setup with perWeight := 255, alpha := 16, confirmations := 4 },
      { setup with alpha := 1, confirmations := 1, hysteresis := 100 }, { setup with tNotice := 1, tFull := 1, tLock := 1, tEmpty := 0 },
      { setup with tNotice := 1000, tFull := 1000, tLock := 1000 }].all Setup.inRange) = true ∧
    ([{ setup with emptyDistance := 4001 }, { setup with emptyDistance := 299, fullDistance := 99 }, { setup with fullDistance := 99 },
      { setup with emptyDistance := 4000, fullDistance := 3801 }, { setup with perWeight := 256 }, { setup with alpha := 0 },
      { setup with alpha := 17 }, { setup with confirmations := 0 }, { setup with confirmations := 5 }, { setup with hysteresis := 101 },
      { setup with tNotice := 901 }, { setup with tFull := 981 }, { setup with tLock := 1001 }, { setup with tEmpty := 700 }].any
        Setup.inRange) = false := by decide

theorem witness_SettingsReplaced :
    Ready (site .configure [box]) .gateway ∧ (site .configure [box]).mode = .configure ∧ ((31 : Nat) < 32 ∧ (1 : Nat) ≤ 1 ∧ (31 : Nat) ≤ 31) ∧
    ((32 : Nat) < 256 ∧ (255 : Nat) < 256 ∧ ((32 : Nat) ≤ 32 ∨ (0 : Nat) = 0 ∨ (31 : Nat) < 255)) ∧
    ((7 : Nat) ≤ 7 ∧ BoundAction.lockStation ≠ .none ∧
      EventClass.integrity ∈ [EventClass.integrity, .actuatorFault, .doorInput, .floodInput, .auxInput, .overfill, .sensorFault, .hatchHeldOpen]) ∧
    ((8 : Nat) < 256 ∧ (7 : Nat) < 8) ∧ ((site .configure [box]).station? 5).isSome = true ∧ ([1, 2, 3, 4, 5, 6, 7, 8] : List Byte).length = 8 :=
  ⟨site_ready _ _ _, rfl, by decide, by decide, by decide, by decide, by decide, rfl⟩

theorem witness_SettingsReplaced_refused :
    ((19 : Nat) < 256 ∧ 18 < (19 : Nat)) ∧ 1 < (2 : Nat) ∧ 3 < (4 : Nat) ∧ (site .configure [box]).station? 15 = none ∧
    (15 < (16 : Nat) ∧ (255 : Nat) < 256) ∧ ((site .configure [box]).station? 5).isSome = true := by decide

theorem witness_MaskReplaced :
    Ready (site .supervise [box]) .gateway ∧ (site .operate [box]).mode = .operate ∧ (site .supervise [box]).mode ≠ .operate ∧
    (site .supervise [box]).station? 15 = none ∧ (site .supervise [box]).station? 5 = some (column .supervise [box]) ∧
    (column .supervise [box]).slots.length ≤ 4 ∧ (31 : Nat) < 2 ^ (5 * (column .supervise [box]).slots.length) ∧
    2 ^ (5 * (column .supervise [box]).slots.length) ≤ (32 : Nat) ∧ (16777215 : Nat) < 16777216 :=
  ⟨site_ready _ _ _, rfl, by decide, by decide, by decide, by decide, by decide, by decide, by decide⟩

/-- A RESTRICTED service port with a stored code and this failure count. -/
def locked (n : Nat) : State := { site .operate [box] with grant := { state := .restricted, failures := n, code := some 7, inactivity := none } }

theorem witness_GrantsGivenAndEnded :
    ((locked 1).port .service).busy = false ∧ ([0, 0, 0, 0, 0, 0, 0, 7] : List Byte).length = 8 ∧ (site .operate [box]).grant.state = .granted ∧
    ({ locked 3 with grant := { (locked 3).grant with state := .barred } }).grant.state = .barred ∧
    (locked 1).grant.state = .restricted ∧ State.reset.grant.code = none ∧ (locked 1).grant.code = some 7 ∧
    BitVec.ofNat 64 (numberOf [0, 0, 0, 0, 0, 0, 0, 7]) = 7 ∧ BitVec.ofNat 64 (numberOf [0, 0, 0, 0, 0, 0, 0, 8]) ≠ 7 ∧
    (locked 1).grant.failures ≤ 1 ∧ (locked 2).grant.failures = 2 ∧ Ready (site .operate [box]) .service ∧
    (site .operate [box]).grant.inactivity.isSome = true :=
  ⟨rfl, rfl, rfl, rfl, rfl, rfl, rfl, by decide +kernel, by decide +kernel, by decide, rfl, site_ready _ _ _, rfl⟩

/-- A CARD_PUT of two records from a port, in flight. -/
def editing (p : Port) (xs : List CardForm) : State :=
  { withCards [cardK] (site .operate [box]) with
    directory := { (withCards [cardK] (site .operate [box])).directory with edit := some { port := p, work := .put xs, results := [] } } }

theorem witness_CardReads :
    Ready (editing .gateway []) .service ∧ (∃ e, (editing .gateway []).directory.edit = some e ∧ e.port ≠ .service) ∧
    (∀ e, (editing .gateway []).directory.edit = some e → e.port = .gateway) ∧ Ready (site .operate [box]) .service ∧
    ((8 : Nat) < 9 ∧ (255 : Nat) < 256) ∧ ((1 : Nat) ≤ 1 ∧ (8 : Nat) ≤ 8) ∧
    ((site .operate [box]).directory.cards.filter fun r => aboveCursor ((site .operate [box]).directory.cursor .service) r.id).take 8 = [] ∧
    (((editing .gateway []).directory.cards.filter fun r => aboveCursor ((editing .gateway []).directory.cursor .gateway) r.id).take 1).getLast? =
      some cardK :=
  ⟨⟨rfl, fun _ => rfl⟩, ⟨_, rfl, by decide⟩, by rintro e ⟨⟩; rfl, site_ready _ _ _, by decide, by decide, by decide, by decide⟩

/-- R81, R83: an id at the cursor is not above it, the next one is, and id 0 is above "before first"; a move leaves the other port's cursor. -/
theorem witness_CardReads_cursor :
    aboveCursor (some 5) 5 = false ∧ aboveCursor (some 5) 6 = true ∧ aboveCursor none 0 = true ∧
    ((State.reset.directory.setCursor .service (some 5)).cursor .service = some 5 ∧
      (State.reset.directory.setCursor .service (some 5)).cursor .gateway = none) ∧ Port.service ≠ Port.gateway := by decide

theorem witness_EditBegins :
    Ready (editing .gateway []) .service ∧ (List.replicate 152 (0 : Byte)).length = 19 * 8 ∧ (List.replicate 56 (0 : Byte)).length = 7 * 8 ∧
    (List.replicate 171 (0 : Byte)).length = 19 * 9 ∧ ((8 : Nat) < 9 ∧ (9 : Nat) < 256) ∧ ((1 : Nat) ≤ 8 ∧ (8 : Nat) ≤ 8) ∧
    (∃ e, (editing .gateway []).directory.edit = some e ∧ e.port ≠ .service) ∧
    (∀ e, (site .operate [box]).directory.edit = some e → e.port = .service) :=
  ⟨⟨rfl, fun _ => rfl⟩, by rw [List.length_replicate], by rw [List.length_replicate], by rw [List.length_replicate], by decide, by decide, ⟨_, rfl, by decide⟩, by rintro e ⟨⟩⟩

theorem witness_CardRecordRoundTrip :
    let r : Card := { cardK with allowance := 255, used := 254, expiry := some 65535, weight := some 255 }
    r.allowance ≤ 255 ∧ r.used ≤ 254 ∧ (∀ d, r.expiry = some d → d ≤ 65535) ∧ ∀ w, r.weight = some w → w ≤ 255 :=
  ⟨by decide, by decide, by rintro d ⟨⟩; decide, by rintro w ⟨⟩; decide⟩

theorem witness_CardRecordRoundTrip_layout :
    let r : Card := { cardK with allowance := 255, used := 254, reserved := 255, period := 65535 }
    r.allowance ≤ 255 ∧ r.used ≤ 254 ∧ r.reserved ≤ 255 ∧ r.period ≤ 65535 := by decide

/-- The record of a CARD_PUT for card K with this allowance. -/
def form (allowance : Nat) : CardForm := cardFormAt ({ cardK with allowance := allowance }).bytes 0

theorem witness_RecordStepsTaken :
    (editing .gateway [form 4, form 9]).directory.edit = some { port := .gateway, work := .put (form 4 :: [form 9]), results := [] } ∧
    (editing .gateway [form 4]).directory.edit = some { port := .gateway, work := .put (form 4 :: []), results := [] } ∧
    ({ form 4 with classCode := 3 }).fieldsBad = true ∧ (form 4).fieldsBad = false ∧ (editing .gateway [form 4]).card? (form 4).id = some cardK ∧
    ((form 3).allowance < 255 ∧ (form 3).allowance < cardK.used + cardK.reserved) ∧
    (withCards [] (editing .gateway [form 4])).card? (form 4).id = none ∧
    (withCards (List.replicate 2 { cardK with id := 1 }) (editing .gateway [form 4])).directory.cards.length < 8192 ∧
    (editing .gateway []).card? 1 = none ∧ 0 < ({ cardK with reserved := 1 }).reserved ∧ cardK.reserved = 0 :=
  ⟨rfl, rfl, by decide +kernel, by decide +kernel, by decide +kernel, by decide +kernel, by decide +kernel, by decide, by decide, by decide, rfl⟩

theorem witness_RecordStepsTaken_form :
    ((form 4).classCode, CardClass.resident) ∈ [(0, CardClass.resident), (1, .business), (2, .crew)] ∧
    (2, CardClass.crew) ∈ [(0, CardClass.resident), (1, .business), (2, .crew)] := by decide +kernel

/-- A directory of 8192 records. -/
def fullDirectory : List Card := (List.range 8192).map fun i => { cardK with id := BitVec.ofNat 56 (i + 100) }

theorem witness_RecordStepsTaken_full :
    8192 ≤ (withCards fullDirectory (editing .gateway [form 4])).directory.cards.length := by simp [withCards, fullDirectory]

/-- Sixteen watch entries. -/
def watches : List WatchEntry := (List.range 16).map fun i => { id := BitVec.ofNat 56 i, action := .report }

theorem witness_WatchListEdits :
    Ready (site .operate [box]) .gateway ∧ (∃ e ∈ ({ site .operate [box] with watch := watches }).watch, e.id = 15) ∧
    (∀ e ∈ ({ site .operate [box] with watch := watches }).watch, e.id ≠ 16) ∧ 16 ≤ ({ site .operate [box] with watch := watches }).watch.length ∧
    (watches.drop 1).length < 16 ∧ (2 : Nat) < 3 ∧ (255 : Nat) < 256 :=
  ⟨site_ready _ _ _, by decide +kernel, by decide +kernel, by decide +kernel, by decide +kernel, by decide, by decide⟩

theorem witness_LevelArithmetic :
    setup.inRange = true ∧ (400 : Nat) ≤ setup.fullDistance ∧ setup.emptyDistance ≤ (2400 : Nat) ∧ ((1 : Nat) ≤ 16 ∧ (16 : Nat) ≤ 16) ∧
    (1000 : Nat) ≤ 1000 ∧ (16000 : Nat) ≤ 16000 ∧ 16 * 900 ≤ 14400 ∧ (14399 : Nat) < 16 * 900 ∧
    Highest (fun k => setup.threshold k ≤ 700) 1 ∧ Highest (fun k => (setup.threshold k : Int) - setup.hysteresis ≤ (870 : Nat)) 2 := by
  refine ⟨by decide, by decide, by decide, by decide, by decide, by decide, by decide, by decide, ⟨by decide, by decide, ?_⟩, ⟨by decide, by decide, ?_⟩⟩
  · intro n h1 h3
    have : n = 2 ∨ n = 3 := by omega
    rcases this with rfl | rfl <;> decide
  · intro n h1 h3
    have : n = 3 := by omega
    subst this
    decide

theorem witness_CardAccounts :
    cardK.used = (if cardK.period = 3 then cardK.used else 0) ∧ (4 : Nat) < ({ cardK with reserved := 4 }).reserved + 1 ∧
    (({ cardK with reserved := 3 }).reserved + 1 ≤ 4 ∧ cardK.allowance < 255 ∧ cardK.allowance < 4 + 0 + 1) ∧
    ({ cardK with allowance := 5 }).reserved + 1 ≤ 4 ∧ 4 + 0 + 1 ≤ ({ cardK with allowance := 5 }).allowance := by decide

theorem witness_AdmissionGranted :
    let s := withCards [{ cardK with allowance := 5, expiry := some 27 }] (site .operate [box])
    s.directory.edit = none ∧ s.container? 20 = some box ∧ s.onlineAt 20 = true ∧ s.mode ≠ .configure ∧ (∀ e ∈ s.watch, e.id ≠ 75) ∧
    s.card? 75 = some { cardK with allowance := 5, expiry := some 27 } ∧ s.clock.day ≤ 27 ∧ cardK.suspended = false ∧ cardK.cls ≠ .crew ∧
    cardK.home.getLsbD (20 / 4) = true ∧ cardK.fractions.getLsbD box.fraction.code = true ∧ box.blocked = none ∧ box.hatch.force = .none ∧
    box.est.band ≠ some .lockout ∧ s.opOf 20 = none ∧ box.hatch.state = .locked ∧ cardK.reserved + 1 ≤ 4 ∧
    (if cardK.period = s.clock.day / s.directory.periodLength then cardK.used else 0) + cardK.reserved + 1 ≤ 5 := by decide +kernel

/-- A part in OPERATE with card K and this watch entry for it. -/
def watching (a : WatchAction) (k : Card) : State :=
  { withCards [k] (site .operate [box]) with watch := [{ id := 75, action := a }] }

theorem witness_AdmissionGranted_refused :
    (watching .report cardK).watch.find? (fun e => e.id == cardK.id) = some { id := 75, action := .report } ∧
    (editing .gateway []).directory.edit.isSome = true ∧ (editing .gateway []).waiting.length < 8 ∧
    8 ≤ ({ editing .gateway [] with waiting := List.replicate 8 { container := 20, card := 75 } }).waiting.length ∧
    (List.replicate 8 ({ container := 20, card := 75 } : Presentation)) = List.replicate 7 { container := 20, card := 75 } ++ [{ container := 20, card := 75 }] ∧
    (site .operate [box]).container? 21 = none ∧ ((site .operate [box]).updStation 5 fun st => { st with online := false }).onlineAt 20 = false ∧
    (site .configure [box]).onlineAt 20 = true ∧ (site .configure [box]).mode = .configure ∧
    (watching .hold cardK).watch.find? (fun e => e.id == 75) = some { id := 75, action := .hold } ∧
    (watching .report cardK).card? 76 = none ∧ (watching .report { cardK with suspended := true }).card? 75 = some { cardK with suspended := true } ∧
    ({ cardK with expiry := some 26 }).expiry = some 26 ∧ 26 < (watching .report cardK).clock.day ∧ ({ cardK with cls := .crew }).cls = .crew ∧
    (firstFailing [((site .operate [box]).round.isNone, .noRound)] = some .noRound) ∧ (firstFailing [(false, .noRound)] = none) ∧
    cardK.cls ≠ .crew ∧ TablesOk (watching .report cardK) ∧
    firstFailing [(decide (4 < 4 + 1), .multiple), (decide (cardK.allowance < 255 ∧ cardK.allowance < 4 + 0 + 1), .quota)] = some .multiple :=
  ⟨by decide +kernel, rfl, by decide, by decide, rfl, by decide, by decide, by decide, rfl, by decide +kernel, by decide +kernel, by decide +kernel, rfl,
    by decide, rfl, by decide, by decide, by decide, by simp [TablesOk, watching, withCards, cardK], by decide⟩

/-- A part in SUPERVISE whose one container has this hatch. -/
def hatched (h : HatchRecord) : State := site .supervise [{ box with hatch := h }]

theorem witness_ForceLocked :
    Ready (hatched { box.hatch with force := .lock }) .gateway ∧ (hatched box.hatch).mode = .supervise ∧
    (hatched { box.hatch with force := .lock }).container? 20 = some { box with hatch := { box.hatch with force := .lock } } ∧
    (site .supervise [admitted]).container? 20 = some admitted ∧ admitted.hatch.force ≠ .lock ∧ admitted.hatch.state = .released ∧
    (site .supervise [admitted]).phaseOf 20 ≠ some .pending ∧ ({ lifting (lift .pending none) admitted with mode := .supervise }).phaseOf 20 = some .pending ∧
    admitted.contacts.hl.accepted = some true ∧ ({ lifting (lift .pending none) admitted with mode := .supervise }).craneTaken 20 = false :=
  ⟨site_ready _ _ _, rfl, by decide, by decide, by decide, rfl, by decide, by decide, by decide, by decide⟩

theorem witness_ForceReleasedCancelled :
    Ready (site .supervise [box]) .service ∧ ((lifting (lift .pending none) box).opOf 20).isSome = true ∧ (site .supervise [box]).opOf 20 = none ∧
    (site .supervise [box]).onlineAt 20 = true ∧ ((site .supervise [box]).updStation 5 fun st => { st with online := false }).onlineAt 20 = false ∧
    box.hatch.force ≠ .release ∧ box.hatch.state = .locked ∧ admitted.hatch.state ≠ .locked ∧ box.hatch.force = .none ∧
    (hatched { box.hatch with force := .release, state := .released }).container? 20 =
      some { box with hatch := { box.hatch with force := .release, state := .released } } ∧
    (hatched { box.hatch with force := .release, state := .released }).phaseOf 20 ≠ some .pending :=
  ⟨site_ready _ _ _, by decide, by decide, by decide, by decide, by decide, rfl, by decide, rfl, by decide, by decide⟩

/-- A hatch OPEN for card K with its deposit timer at its end. -/
def opened : Container :=
  { admitted with hatch := { admitted.hatch with state := .opened, window := none, deposit := some 0 } }

theorem witness_HatchTimersExpired :
    (site .operate [admitted]).container? 20 = some admitted ∧ admitted.hatch.state = .released ∧ admitted.hatch.window.isSome = true ∧
    (site .operate [admitted]).phaseOf 20 ≠ some .pending ∧ ¬(box.hatch.state = .released ∧ box.hatch.window.isSome = true) ∧
    opened.hatch.state = .opened ∧ opened.hatch.deposit.isSome = true ∧ ((site .operate [opened]).bindingOf .hatchHeldOpen).action = .none ∧
    ¬(box.hatch.state = .opened ∧ box.hatch.deposit.isSome = true) ∧ (lifting (lift .pending none) admitted).phaseOf 20 = some .pending ∧
    (lifting (lift .pending none) admitted).container? 20 = some admitted ∧ (lifting (lift .pending none) admitted).craneTaken 20 = false := by decide

/-- What a handover in which HC alone changed carries. -/
def hcChanged : PerContact Acceptance := { PerContact.all Acceptance.none with hc := .changed }

theorem witness_HatchFollowsContact :
    (site .operate [box]).container? 20 = some box ∧ (PerContact.all Acceptance.initial).hc ≠ .changed ∧ hcChanged.hc = .changed ∧
    box.hatch.state = .locked ∧ admitted.hatch.state = .released ∧
    ({ admitted with contacts := .all (settled false) }).contacts.hc.accepted = some false ∧ opened.hatch.state = .opened ∧
    opened.contacts.hc.accepted = some true ∧ (site .operate [opened]).phaseOf 20 ≠ some .pending ∧ opened.latched = some setup ∧
    (lifting (lift .pending none) opened).container? 20 = some opened ∧ (lifting (lift .pending none) opened).phaseOf 20 = some .pending ∧
    (lifting (lift .pending none) opened).craneTaken 20 = false := by decide

theorem witness_HatchFollowsContact_still :
    (admitted.hatch.state = .released ∧ admitted.contacts.hc.accepted = some true) ∧
    (opened.hatch.state = .opened ∧ ({ opened with contacts := .all (settled false) }).contacts.hc.accepted = some false) := by decide

/-- An OPEN hatch whose next credit takes its level over T notice. -/
def nearFull : Container := { opened with est := { opened.est with smoothed := some 11180, credited := 11180, level := 699 } }

theorem witness_HatchFollowsContact_band :
    (site .operate [nearFull]).container? 20 = some nearFull ∧ (site .operate [nearFull]).actions = [] ∧
    setup.candidate .low ((11180 + setup.perWeight + 8) / 16) = .notice ∧ setup.candidate .low ((7200 + setup.perWeight + 8) / 16) = .low ∧ Band.number .low < Band.number .notice ∧
    ({ opened with latched := none }).latched = none ∧
    ({ opened with est := { opened.est with band := some .full } }).est.band = some .full := by decide

theorem witness_ListRequests :
    Ready (site .supervise [box]) .gateway ∧ (site .supervise [box]).container? 20 = some box ∧ (site .supervise [box]).mode ≠ .configure ∧
    (site .supervise [box]).entry? 20 = none ∧ (site .supervise [box]).mode = .supervise ∧
    ({ site .supervise [box] with collection := [entry] }).entry? 20 = some entry ∧ entry.reason ≠ .forecast ∧ entry.claimed = true ∧
    ({ site .supervise [box] with collection := [{ entry with reason := .forecast, claimed := false }] }).entry? 20 =
      some { entry with reason := .forecast, claimed := false } :=
  ⟨site_ready _ _ _, by decide, by decide, by decide, rfl, by decide, by decide, rfl, by decide⟩

theorem witness_RoundOpened :
    Ready (site .operate [box]) .gateway ∧ (site .operate [box]).mode ≠ .configure ∧ ((255 : Nat) < 256 ∧ (65535 : Nat) < 65536) ∧
    ((64 : Nat) < 65 ∨ (1 : Nat) < 2) ∧ ((1 : Nat) ≤ 1 ∧ (64 : Nat) ≤ 64 ∧ (3 : Nat) ≠ 0) ∧
    (∃ u, Nat.testBit 3 u = true ∧ (site .operate [box]).station? u = none) ∧
    (∀ u, Nat.testBit 32 u = true → ((site .operate [box]).station? u).isSome = true) ∧
    ({ site .operate [box] with round := some round }).round.isSome = true ∧ (site .operate [box]).round = none ∧
    (∀ u, u < 16 → (32 : StationSet).getLsbD u = ((site .operate [box]).station? u).isSome) := by
  refine ⟨site_ready _ _ _, by decide, by decide, by decide, by decide, ⟨0, by decide, by decide⟩, ?_, rfl, rfl, by decide⟩
  intro u hu
  have : u = 5 := by
    have h32 : (32 : Nat) = 2 ^ 5 := rfl
    rw [h32, Nat.testBit_two_pow] at hu
    exact (of_decide_eq_true hu).symm
  subst this
  decide

theorem lifting_emptyingOk (ph : Phase) (t : Timer) (k : Container) (h : k.hatch.state = .locked) : EmptyingOk (lifting (lift ph t) k) := by
  refine ⟨rfl, ?_, ?_, ?_, ?_, ?_, ?_, ?_, ?_⟩
  · simp [State.operations, lifting]
  · simp [State.operations, lifting]
  · simp [State.operations, lifting]
  · simp [State.operations, lifting, lift]
  · simp [State.operations, lifting, lift, entry]
  · intro hm; cases hm
  · intro op _ _ k' hk
    have hk' : (site .operate [k]).container? op.container = some k' := hk
    obtain ⟨-, rfl⟩ := site_single hk'
    exact h
  · simp [lifting]

theorem witness_RoundClosed :
    Ready (lifting (lift .pending none) box) .service ∧ (lifting (lift .pending none) box).mode ≠ .configure ∧
    (site .operate [box]).round = none ∧ (∃ op ∈ (lifting (lift .returned none) box).operations, op.phase = .lifted ∨ op.phase = .returned) ∧
    EmptyingOk (lifting (lift .pending none) box) ∧ (lifting (lift .pending none) box).round = some round ∧ round.nAbandoned ≤ 65535 ∧
    (∀ op ∈ (lifting (lift .pending none) box).operations, op.phase = .pending ∨ op.phase = .unlatched) :=
  ⟨site_ready .operate [box] .service, by decide, rfl, by decide, lifting_emptyingOk _ _ _ rfl, rfl, by decide, by decide⟩

/-- A part in OPERATE with an open round and its four slots taken elsewhere, but for the last `n`. -/
def busySlots (n : Nat) (k : Container) : State :=
  { site .operate [k] with
    round := some round
    ops := (List.range 4).map fun i => if i + n < 4 then some { lift .pending none with container := 40 + 4 * i } else none }

theorem witness_LiftStarted :
    Ready (busySlots 1 admitted) .gateway ∧ (busySlots 1 admitted).mode ≠ .configure ∧ (busySlots 1 admitted).container? 20 = some admitted ∧
    (site .operate [box]).round = none ∧ (busySlots 1 admitted).round = some round ∧
    ({ box with hatch := { box.hatch with force := .release } }).hatch.force = .release ∧ admitted.hatch.force ≠ .release ∧
    ((lifting (lift .pending none) box).opOf 20).isSome = true ∧ (busySlots 1 admitted).opOf 20 = none ∧
    (busySlots 1 admitted).craneTaken 20 = false ∧ (∀ o ∈ (busySlots 0 admitted).ops, o.isSome = true) ∧
    (busySlots 1 admitted).ops[3]? = some none ∧ (∀ j, j < 3 → (busySlots 1 admitted).ops[j]? ≠ some none) ∧
    (busySlots 1 admitted).onlineAt 20 = true ∧ ((busySlots 1 admitted).updStation 5 fun st => { st with online := false }).onlineAt 20 = false ∧
    decide (admitted.hatch.state ≠ .opened ∧ admitted.contacts.hl.accepted = some true) = true ∧
    (({ busySlots 1 admitted with collection := [entry] }).entry? 20 = some entry ∧ entry.claimed = true) :=
  ⟨site_ready .operate [admitted] .gateway, by decide, by decide, rfl, rfl, rfl, by decide, by decide, by decide, by decide, by decide, by decide,
    by decide, by decide, by decide, by decide, by decide⟩

theorem witness_OperationTimersExpired :
    (lifting (lift .unlatched (some 0)) box).container? 20 = some box ∧ box.hatch.state = .locked ∧
    (lifting (lift .unlatched (some 0)) box).opOf 20 = some (lift .unlatched (some 0)) ∧
    (lifting (lift .lifted (some 900)) box).opOf 20 = some (lift .lifted (some 900)) ∧
    (lifting (lift .lifted (some 900)) box).entry? 20 = some entry := by decide

/-- A part in OPERATE with an operation of container 20 in this phase and one of container 21 waiting in PENDING. -/
def queued (ph : Phase) : State :=
  { site .operate [box, box] with
    round := some round
    collection := [entry, { entry with container := 21 }]
    ops := [some (lift ph none), some { lift .pending none with container := 21, order := 1 }, none, none] }

theorem queued_emptyingOk (ph : Phase) : EmptyingOk (queued ph) := by
  refine ⟨rfl, ?_, ?_, ?_, ?_, ?_, ?_, ?_, ?_⟩
  · simp [State.operations, queued, lift]
  · simp [State.operations, queued, lift, Phase.holdsCrane]
  · simp [State.operations, queued, lift]
  · simp [State.operations, queued, lift]
  · simp [State.operations, queued, lift, entry]
  · intro hm; cases hm
  · intro op _ _ k hk
    obtain ⟨-, hk⟩ := site_container (m := .operate) (ks := [box, box]) hk
    have hmem := List.mem_of_getElem? hk
    simp only [List.mem_cons, List.not_mem_nil, or_false, or_self] at hmem
    subst hmem
    rfl
  · simp [queued, entry]

theorem witness_OperationTimersExpired_ended :
    EmptyingOk (queued .lifted) ∧ (queued .lifted).container? 20 = some box ∧ (queued .lifted).opOf 20 = some (lift .lifted none) ∧
    (queued .lifted).movesAfter (lift .lifted none) { lift .pending none with container := 21, order := 1 } = true ∧
    (queued .pending).movesAfter (lift .pending none) { lift .pending none with container := 21, order := 1 } = false ∧
    box.hatch.state = .locked :=
  ⟨queued_emptyingOk _, by decide, by decide, by decide, by decide, rfl⟩

theorem witness_OperationAdvances :
    (lifting (lift .unlatched (some 5)) box).container? 20 = some box ∧ (lifting (lift .unlatched (some 5)) box).opOf 20 = some (lift .unlatched (some 5)) ∧
    ({ PerContact.all Acceptance.none with se := .changed }).se = Acceptance.changed ∧
    ({ box with contacts := .all (settled false) }).contacts.se.accepted = some false ∧
    ({ PerContact.all Acceptance.none with pd := .initial }).pd.some? = true ∧ box.contacts.se.accepted = some true ∧
    box.contacts.pd.accepted = some true ∧ (lifting (lift .lifted (some 5)) box).mode ≠ .configure ∧ box.latched = some setup ∧
    box.est.flight = none ∧ box.marker = none ∧ (lifting (lift .lifted (some 5)) box).onlineAt 20 = true ∧
    (lift .returned none).phase = .returned ∧ box.hatch.state = .locked ∧ 150 ≤ setup.tEmpty ∧ setup.tEmpty < 151 ∧
    (lift .returned none).attempts < 3 ∧ ({ lift .returned none with attempts := 3 }).attempts = 3 ∧
    (lifting (lift .pending none) box).opOf 20 = some (lift .pending none) ∧
    decide (({ PerContact.all Acceptance.none with hl := .changed }).hl ≠ .none ∧ box.hatch.state = .locked ∧ box.contacts.hl.accepted = some true ∧
      (lifting (lift .pending none) box).craneTaken 20 = false) = true ∧ (lift .pending none).phase ≠ .returned := by decide

theorem witness_OperationAdvances_ended :
    EmptyingOk (queued .returned) ∧ (queued .returned).opOf 20 = some (lift .returned none) ∧ (queued .returned).container? 20 = some box ∧
    box.latched = some setup ∧ (queued .returned).movesAfter (lift .returned none) { lift .pending none with container := 21, order := 1 } = true :=
  ⟨queued_emptyingOk _, by decide, by decide, rfl, by decide⟩

/-- A container whose seating check is armed and SE accepted at this value. -/
def unseated (b : Bool) (k : Container) : Container :=
  { k with seatingCheck := true, contacts := { k.contacts with se := settled b } }

theorem witness_OperationAdvances_seating :
    (site .operate [unseated false box]).container? 20 = some (unseated false box) ∧ (site .operate [unseated false box]).opOf 20 = none ∧
    box.seatingCheck = false ∧ (unseated true box).contacts.se.accepted = some true ∧ (PerContact.all Acceptance.initial).se = .initial ∧
    hcChanged.se ≠ .initial ∧ (unseated false box).hatch.state ≠ .released ∧
    ((unseated false admitted).hatch.state = .released ∧ (site .operate [unseated false admitted]).phaseOf 20 ≠ some .pending) ∧
    (site .operate [unseated false box]).actions = [] := by decide

/-- A measurement in flight. -/
def measuring : Container := { box with est := { box.est with flight := some { tag := none, timeout := 0 } } }

theorem witness_AttemptMade :
    EmptyingOk (lifting (lift .returned (some 0)) box) ∧
    (lifting (lift .returned (some 0)) box).container? 20 = some box ∧
    (lifting (lift .returned (some 0)) box).opOf 20 = some (lift .returned (some 0)) ∧ (lift .returned (some 0)).phase = .returned ∧
    (lift .returned (some 0)).timer.isSome = true ∧ box.latched.isSome = true ∧
    box.est.flight = none ∧ box.marker = none ∧ (lifting (lift .returned (some 0)) box).onlineAt 20 = true ∧
    ((lifting (lift .returned (some 0)) box).updStation 5 fun st => { st with online := false }).onlineAt 20 = false ∧
    (lift .returned (some 0)).attempts + 1 ≠ 3 ∧ ({ box with marker := some { tag := none } }).marker.isSome = true ∧
    measuring.est.flight = some { tag := none, timeout := 0 } ∧ (lift .returned none).timer = none :=
  ⟨lifting_emptyingOk _ _ _ rfl, by decide, by decide, rfl, rfl, rfl, rfl, rfl, by decide, by decide, by decide, rfl, rfl, rfl⟩

theorem witness_MeasureNowTaken :
    Ready (site .operate [box]) .gateway ∧ (site .operate [box]).mode ≠ .configure ∧ (site .operate [box]).container? 20 = some box ∧
    (lifting (lift .returned none) box).phaseOf 20 = some .returned ∧ (site .operate [box]).phaseOf 20 = none ∧
    (lifting (lift .pending none) box).phaseOf 20 = some .pending ∧
    ((site .operate [box]).updStation 5 fun st => { st with online := false }).onlineAt 20 = false ∧ (site .operate [box]).onlineAt 20 = true ∧
    box.latched.isSome = true ∧ measuring.est.flight.isSome = true ∧ box.est.flight = none ∧ box.marker = none :=
  ⟨site_ready _ _ _, by decide, by decide, by decide, by decide, by decide, by decide, by decide, rfl, rfl, rfl, rfl⟩

theorem witness_LampAndScheduleExpiries :
    (site .operate [box]).container? 20 = some box ∧ ({ box with lampHold := some 0 }).lampHold.isSome = true ∧ box.lampHold = none ∧
    ({ box.est with periodic := some 0 }).periodic.isSome = true ∧ box.est.periodic = none ∧
    ({ box.est with postDeposit := some 0 }).postDeposit.isSome = true ∧ box.est.postDeposit = none := by decide

/-- A verification measurement in flight, its seed not yet taken. -/
def verifying : Container := { box with est := { box.est with flight := some { tag := some { seedMarker := true }, timeout := 0 } } }

theorem witness_EchoLost :
    (site .operate [measuring]).container? 20 = some measuring ∧ measuring.est.flight = some { tag := none, timeout := 0 } ∧
    (site .configure [box]).mode = .configure ∧ (site .operate [measuring]).mode ≠ .configure ∧ min 255 (measuring.est.rejected + 1) < 4 ∧
    4 ≤ min 255 (({ measuring.est with rejected := 3 }).rejected + 1) ∧ measuring.est.sensor ≠ .faulty ∧
    ((site .operate [measuring]).bindingOf .sensorFault).action = .none ∧ measuring.latched = some setup ∧
    (verifying.est.flight = some { tag := some { seedMarker := true }, timeout := 0 } ∧
      (lifting (lift .returned none) verifying).container? 20 = some verifying) ∧
    (site .operate [measuring]).phaseOf 20 = none ∧ ((2 : Nat) < 3 ∧ setup.emptyDistance + 200 < 2601) ∧
    (lifting (lift .returned none) measuring).phaseOf 20 = some .returned ∧ box.est.flight = none := by decide

theorem witness_SampleTaken :
    (site .operate [measuring]).container? 20 = some measuring ∧ measuring.latched = some setup ∧
    measuring.est.flight = some { tag := none, timeout := 0 } ∧ (site .operate [measuring]).mode ≠ .configure ∧
    (site .operate [measuring]).phaseOf 20 = none ∧ (lifting (lift .pending none) measuring).phaseOf 20 = some .pending ∧ (3 : Nat) ≤ 3 ∧
    2600 ≤ setup.emptyDistance + 200 ∧ setup.inRange = true ∧ measuring.est.smoothed = some 7200 ∧ measuring.est.band = some .low ∧
    ({ measuring.est with smoothed := none, band := none }).smoothed = none ∧
    ((lifting (lift .returned none) verifying).container? 20 = some verifying ∧
      verifying.est.flight = some { tag := some { seedMarker := true }, timeout := 0 }) ∧
    (measuring.est.smoothed.isNone || decide ((some { seedMarker := true } : Option VerifyTag) = some { seedMarker := true })) = true ∧
    ((site .operate [measuring]).bindingOf .overfill).action = .none ∧ setup.candidate .low 450 = .low ∧
    (setup.candidate .low 720 ≠ .low ∧ 1 < setup.confirmations ∧ setup.confirmations ≤ 2) := by decide

/-- A measurement in flight whose candidate NOTICE has stood for one sample. -/
def rising : Container :=
  { measuring with
    est := { measuring.est with smoothed := some 12000, credited := 12000, level := 750, candidate := some .notice, count := 1 } }

theorem witness_SampleTaken_bandChanged :
    (site .operate [rising]).container? 20 = some rising ∧ rising.est.flight = some { tag := none, timeout := 0 } ∧
    (((site .operate [rising]).handEcho 20 (some (.heard 900 9))).container? 20).map (fun k => k.est.band) = some (some .notice) ∧
    rising.est.band ≠ some .notice ∧ ((site .operate [rising]).bindingOf .overfill).action = .none := by decide +kernel

/-- An action in flight on containers 20 and 21. -/
def held (a b : PartState) : HeldAction where
  event := (site .operate [box]).event .doorInput (some 5) none (.input false .edge)
  parts := [{ container := 20, state := a }, { container := 21, state := b }]

theorem witness_WindowsExpired :
    (site .operate [box]).container? 20 = some box ∧ (box.settleOf .lock).running = false ∧
    (({ box with settleHL := .settling 0 }).settleOf .lock).running = true ∧ box.hatch.state = .locked ∧
    ((site .operate [box]).bindingOf .actuatorFault).action = .none ∧ (site .operate [box]).phaseOf 20 ≠ some .returned ∧
    (∀ x ∈ [held (.window 0) .waiting, held (.window 0) .confirmed], x.complete = false) ∧
    [held (.window 0) .waiting, held (.window 0) .confirmed][1]? = some (held (.window 0) .confirmed) ∧
    (∃ q ∈ (held (.window 0) .confirmed).parts, q.container = 20 ∧ ∃ n, q.state = .window n) ∧
    (∃ q ∈ (held .notEngaged .waiting).parts, q.state = .waiting ∨ ∃ n, q.state = .window n) ∧
    (∀ q ∈ (held .notEngaged .confirmed).parts, q.state = .confirmed ∨ q.state = .notEngaged) ∧
    (some true ≠ (none : Option Bool) ∧ (none : Option Bool) ≠ some false) ∧ (site .operate [box]).station? (20 / 4) = some (column .operate [box]) ∧
    (column .configure [box]).status = .suspended ∧ (column .operate [box]).status ≠ .suspended ∧ (Settle.settling 0).running = true ∧
    (({ lifting (lift .returned none) { box with settleLL := .settling 0 } with mode := .operate }).phaseOf 20 = some .returned) :=
  ⟨by decide, by decide, by decide, rfl, by decide, by decide, by decide, rfl, ⟨_, .head _, rfl, 0, rfl⟩, ⟨_, .tail _ (.head _), .inl rfl⟩,
    by decide, by decide, by decide, rfl, by decide, rfl, by decide⟩

theorem witness_WindowsExpired_parts :
    (site .operate [box]).container? 20 = some box ∧ (site .operate [box]).onlineAt 20 = true ∧
    ((site .operate [box]).updStation 5 fun st => { st with online := false }).onlineAt 20 = false ∧
    (box.hatch.state = .locked ∧ box.contacts.hl.accepted = some true) ∧ admitted.hatch.state ≠ .locked ∧
    ((box.contacts.hl.accepted = some true ∨ box.mask.hl = true) ∧
      ¬(({ box with contacts := .all (settled false) }).contacts.hl.accepted = some true ∨ box.mask.hl = true)) := by decide

/-- A container whose HC stands at 0 in a LOCKED hatch. -/
def pried : Container := { box with contacts := { box.contacts with hc := settled false } }

/-- A part in OPERATE with this action bound to INTEGRITY. -/
def bound (a : BoundAction) (ks : List Container) : State :=
  { site .operate ks with bindings := (site .operate ks).bindings.map fun b => { b with action := a } }

theorem witness_IntegrityRaised :
    (site .operate [box]).station? 5 = some (column .operate [box]) ∧ (column .operate [box]).slots.length ≤ 4 ∧
    (site .operate [box]).stationMatched 5 = true ∧ StationStatus.armed ≠ .suspended ∧ (site .operate [pried]).stationMatched 5 = false ∧
    ((site .operate [pried]).bindingOf .integrity).action = .none ∧ (site .operate [pried]).container? 20 = some pried ∧
    ((bound .listInspection [box]).bindingOf .integrity).action = .listInspection ∧
    ((bound .lockContainer [box]).bindingOf .integrity).action = .lockContainer ∧
    (((bound .lockStation [box]).bindingOf .integrity).action = .lockStation ∧ (bound .lockStation [box]).containersAt 5 = [20]) ∧
    (bound .lockStation [box]).actions = [] ∧ [20].Nodup ∧ (bound .lockStation [box]).container? 20 = some box ∧ box.hatch.state ≠ .released ∧
    ((∀ q ∈ (held .confirmed .confirmed).parts, q.state = .confirmed) ∧ ∃ q ∈ (held .waiting .confirmed).parts, q.state ≠ .confirmed) := by decide

theorem testBit_two_pow_20 {u : Nat} (h : Nat.testBit (2 ^ 20) u = true) : u = 20 := by
  rw [Nat.testBit_two_pow] at h
  exact (of_decide_eq_true h).symm

theorem witness_FlagsAndBlocksCleared :
    Ready (site .supervise [box]) .service ∧ ((2 : Nat) ^ 64 - 1 < 2 ^ 64 ∧ (255 : Nat) < 256) ∧ (2 : Nat) ^ 20 ≠ 0 ∧
    (∃ c, Nat.testBit 1 c = true ∧ (site .supervise [box]).container? c = none) ∧
    (∀ c, Nat.testBit (2 ^ 20) c = true → ((site .supervise [box]).container? c).isSome = true) ∧ ((65535 : Nat) < 2 ^ 16 ∧ (16 : Nat) ≤ 16) ∧
    (15 : Nat) < 16 ∧ (∃ u, Nat.testBit 1 u = true ∧ (site .supervise [box]).station? u = none) ∧
    (∀ u, Nat.testBit (2 ^ 5) u = true → ((site .supervise [box]).station? u).isSome = true) ∧ (site .supervise [box]).mode = .supervise ∧
    (site .supervise [box]).container? 20 = some box := by
  refine ⟨site_ready _ _ _, by decide, by decide, ⟨0, by decide, by decide⟩, ?_, by decide, by decide, ⟨0, by decide, by decide⟩, ?_, rfl, by decide⟩
  · intro c hc
    rw [testBit_two_pow_20 hc]
    decide
  · intro u hu
    rw [Nat.testBit_two_pow] at hu
    rw [← of_decide_eq_true hu]
    decide

/-- R171, R185: target kinds that name nothing, and the byte of each single station flag. -/
theorem witness_FlagsAndBlocksCleared_kinds :
    Ready (site .supervise [box]) .gateway ∧ ((2 : Nat) ≤ 2 ∧ (2 : Nat) ≤ 255 ∧ (255 : Nat) < 256) ∧ (bytesOf 8 1 ++ [byteOf 255]).length = 9 ∧
    ({ door := true, flood := false, aux := false, offline := false } : StationFlags).byte = 1 ∧
    ({ door := false, flood := true, aux := false, offline := false } : StationFlags).byte = 2 ∧
    ({ door := false, flood := false, aux := true, offline := false } : StationFlags).byte = 4 ∧
    ({ door := false, flood := false, aux := false, offline := true } : StationFlags).byte = 8 :=
  ⟨site_ready _ _ _, by decide, by decide, by decide, by decide, by decide, by decide⟩

/-- A record of this priority and an event like it. -/
def recordOf (p : Nat) : Record := { event := { (held .waiting .waiting).event with priority := p }, result := .none, notEngaged := 0, seq := 1 }

theorem witness_PostingTaken :
    let q : Report := { queue := recordOf 3 :: List.replicate 63 (recordOf 1), overflowed := false, nextSeq := 2, attn := false }
    ({ (recordOf 1).event with enabled := false }).enabled = false ∧ (recordOf 1).event.enabled = true ∧ ([recordOf 7].length < 64) ∧
    64 ≤ q.queue.length ∧ (∀ x ∈ q.queue, (recordOf 1).event.priority ≤ x.event.priority) ∧
    q.queue = [recordOf 3] ++ recordOf 1 :: List.replicate 62 (recordOf 1) ∧ (recordOf 1).event.priority < (recordOf 2).event.priority ∧
    (∀ y ∈ [recordOf 3], (recordOf 1).event.priority < y.event.priority) ∧
    (∀ y ∈ List.replicate 62 (recordOf 1), (recordOf 1).event.priority ≤ y.event.priority) ∧ (recordOf 1).event.priority < 7 := by
  decide +kernel

theorem witness_ModesChanged :
    Ready (site .supervise [box]) .gateway ∧ (site .configure [box]).mode = .configure ∧ (site .operate [box]).mode = .operate ∧
    (site .supervise [box]).mode = .supervise ∧ (∃ c k, (site .supervise [admitted]).container? c = some k ∧ k.hatch.state ≠ .locked) ∧
    StationsOk (site .supervise [box]) ∧ (∀ c k, (site .supervise [box]).container? c = some k → k.hatch.state = .locked) ∧
    (lifting (lift .pending none) box).operations ≠ [] ∧ (site .supervise [box]).operations = [] ∧
    ({ site .supervise [box] with round := some round }).round.isSome = true ∧ (site .supervise [box]).round = none ∧
    (editing .gateway []).directory.edit.isSome = true ∧ (site .supervise [box]).directory.edit = none ∧
    (∀ c k, (site .supervise [box]).container? c = some k → k.hatch.force ≠ .release) := by
  refine ⟨site_ready _ _ _, rfl, rfl, rfl, ⟨20, admitted, by decide, by decide⟩, site_stationsOk _ _ (by decide) (by decide) (by decide), ?_, by decide, rfl, rfl,
    rfl, rfl, rfl, ?_⟩
  · intro c k hk
    obtain ⟨-, rfl⟩ := site_single hk
    rfl
  · intro c k hk
    obtain ⟨-, rfl⟩ := site_single hk
    decide

/-- A container whose hatch is forced to RELEASED. -/
def forced : Container :=
  { box with
    hatch := { box.hatch with force := .release, state := .released, closeAction := .returnToReleased }
    outputs := { box.outputs with lock := .release } }

theorem witness_ModesChanged_forced :
    Ready (site .supervise [forced]) .gateway ∧ (site .supervise [forced]).mode = .supervise ∧ OutputsOk (site .supervise [forced]) ∧
    (site .supervise [forced]).container? 20 = some forced := by
  have hnone : (site .supervise [forced]).operations = [] := by decide
  refine ⟨site_ready _ _ _, rfl, ⟨⟨rfl, ?_, ?_, ?_, ?_, ?_, ?_, ?_, ?_⟩, ?_, ?_⟩, by decide⟩
  · simp [hnone]
  · simp [hnone]
  · simp [hnone]
  · simp [hnone]
  · simp [hnone]
  · intro hm; cases hm
  · simp [hnone]
  · simp [site, State.reset]
  · intro hm; cases hm
  · intro c k hk
    obtain ⟨rfl, rfl⟩ := site_single hk
    decide

/-- R185, R189: mode bytes that name no mode. -/
theorem witness_ModesChanged_range : Ready (site .configure [box]) .gateway ∧ ((2 : Nat) < 3 ∧ (2 : Nat) < 255 ∧ (255 : Nat) < 256) :=
  ⟨site_ready _ _ _, by decide⟩

/-- A container with a setup written and none latched. -/
def written : Container := { Container.fresh .paper with written := some setup, writtenMarker := true }

theorem witness_ConfigureLeft :
    Ready (site .configure [written]) .gateway ∧ (site .configure [written]).mode = .configure ∧ StationsOk (site .configure [written]) ∧
    (site .configure [Container.fresh .paper]).container? 20 = some (Container.fresh .paper) ∧
    (Container.fresh .paper).latched = none ∧ (Container.fresh .paper).written = none ∧
    (∀ d k', d < 20 → (site .configure [Container.fresh .paper]).container? d = some k' → k'.latched.isSome = true ∨ k'.written.isSome = true) ∧
    (∀ c k, (site .configure [written]).container? c = some k → k.latched.isSome = true ∨ k.written.isSome = true) ∧
    (∀ c k, (site .configure [box]).container? c = some k → k.latched.isSome = true ∨ k.written.isSome = true) ∧
    (site .configure [box]).onlineAt 20 = true ∧
    ({ box with settleHL := .deferred, contacts := { box.contacts with hl := settled false } }).contacts.hl.accepted = some (!true) := by
  refine ⟨site_ready _ _ _, rfl, site_stationsOk _ _ (by decide) (by decide) (by decide), by decide, rfl, rfl, ?_, ?_, ?_, by decide, rfl⟩
  · intro d k' hd hk
    obtain ⟨rfl, -⟩ := site_single hk
    omega
  · intro c k hk
    obtain ⟨-, rfl⟩ := site_single hk
    decide
  · intro c k hk
    obtain ⟨-, rfl⟩ := site_single hk
    decide

theorem witness_WarmStarted :
    (site .operate [box]).station? 5 = some (column .operate [box]) ∧ (site .operate [box]).container? 20 = some box := by decide

theorem witness_HourPassed :
    StationsOk (site .operate [box]) ∧ (site .operate [box]).clock.boundaryDue = false ∧
    ({ (site .operate [box]).clock with boundaryDue := true }).boundaryDue = true ∧ (site .operate [box]).container? 20 = some box ∧
    box.latched = some setup ∧ (Container.fresh .paper).latched = none ∧ (site .operate [box]).container? 21 = none :=
  ⟨site_stationsOk _ _ (by decide) (by decide) (by decide), rfl, rfl, by decide, rfl, rfl, by decide⟩

theorem witness_VisitBegun :
    (site .operate [box]).bus.visiting = none ∧ NextVisit (site .operate [box]) 5 ∧
    (site .operate [box]).station? 5 = some (column .operate [box]) ∧ (column .operate [box]).slots.length ≤ 4 ∧
    ((column .operate [{ box with marker := some { tag := none } }]).online &&
      (column .operate [{ box with marker := some { tag := none } }]).slots.any fun k => k.marker.isSome) = true := by
  refine ⟨rfl, ⟨by decide, .inr ⟨.inl rfl, by decide⟩⟩, by decide, by decide, by decide⟩

/-- A valid reply of node 9 with one slot, all contacts at 1. -/
def reply9 : List Byte := busFrame 9 0x83 [40, 1, 1, 31]

/-- A part whose one station is OFFLINE and under visit. -/
def returning : State :=
  { site .operate [box] with
    stations := (List.replicate 16 (none : Option Station)).set 5
      (some { column .operate [box] with online := false, misses := 3, status := .suspended })
    bus := { visiting := some 5, last := some 5, sent := [] } }

theorem returning_stationsOk : StationsOk returning := by
  refine ⟨rfl, ?_⟩
  intro t st hst
  have hs : returning.stations = (List.replicate 16 (none : Option Station)).set 5
      (some { column .operate [box] with online := false, misses := 3, status := .suspended }) := rfl
  simp only [State.station?, hs, List.getElem?_set, List.length_replicate, List.getElem?_replicate] at hst
  split at hst
  · simp at hst
    subst hst
    refine ⟨by decide, by simp, by simp, ?_⟩
    intro k hk
    simp only [column, List.mem_singleton] at hk
    subst hk
    decide
  · split at hst <;> simp at hst

theorem witness_ReplyTaken :
    ({ site .operate [box] with bus := { visiting := some 5, last := some 5, sent := [] } }).bus.visiting = some 5 ∧
    (site .operate [box]).station? 5 = some (column .operate [box]) ∧ readReply 9 1 (reply9.drop 1) = none ∧ (readReply 9 1 reply9).isSome = true ∧
    (site .operate [box]).container? (4 * 5 + 0) = some box ∧ (site .operate [box]).bus.visiting = none ∧
    (StationsOk (site .operate [box]) ∧ StationsOk returning ∧ (returning.station? 5).map Station.online = some false) ∧
    ((31 : Nat) < 256 ∧ (4 : Nat) ≤ 4 ∧ (4095 : Nat) ≤ 4095 ∧ (15 : Nat) ≤ 15) ∧
    ((settled false).accepted = some InputSetup.default.door.active ∧ InputSetup.default.door.trigger = .edge) ∧
    ((settled true).accepted = some InputSetup.default.flood.active ∧ InputSetup.default.flood.trigger = .level ∧
      (column .operate [box]).flags.flood = false) ∧
    (settled true).accepted ≠ some InputSetup.default.door.active :=
  ⟨rfl, by decide, by decide +kernel, by decide +kernel, by decide, rfl, ⟨site_stationsOk _ _ (by decide) (by decide) (by decide), returning_stationsOk, by decide⟩,
    by decide, ⟨rfl, rfl⟩, ⟨rfl, rfl, rfl⟩, by decide⟩

/-- A part with a lift in PENDING at a station of two misses under visit. -/
def missing : State :=
  { lifting (lift .pending none) box with
    stations := (List.replicate 16 (none : Option Station)).set 5 (some { column .operate [box] with misses := 2 })
    bus := { visiting := some 5, last := some 5, sent := [] } }

theorem missing_emptyingOk : EmptyingOk missing := by
  obtain ⟨h1, h2, h3, h4, h5, h6, h7, -, h9⟩ := lifting_emptyingOk .pending none box rfl
  refine ⟨h1, h2, h3, h4, h5, h6, h7, ?_, h9⟩
  intro op hop hc
  have hop' : op ∈ [some (lift .pending none), none, none, none].filterMap id := hop
  simp only [List.filterMap_cons, List.filterMap_nil, id, List.mem_singleton] at hop'
  subst hop'
  cases hc

theorem witness_VisitMissed :
    (site .operate [box]).bus.visiting = none ∧
    ({ site .operate [box] with bus := { visiting := some 5, last := some 5, sent := [] } }).bus.visiting = some 5 ∧
    (site .operate [box]).station? 5 = some (column .operate [box]) ∧ (column .operate [box]).online = true ∧
    ({ column .operate [box] with online := false }).online = false ∧ ({ column .operate [box] with misses := 1 }).misses < 2 ∧
    2 ≤ ({ column .operate [box] with misses := 2 }).misses ∧ EmptyingOk missing ∧ missing.bus.visiting = some 5 ∧
    (missing.station? 5).map (fun st => (st.online, st.misses)) = some (true, 2) :=
  ⟨rfl, rfl, by decide, rfl, rfl, by decide, by decide, missing_emptyingOk, rfl, by decide⟩

theorem witness_VisitMissed_detail :
    ({ site .operate [box] with bus := { visiting := some 4, last := some 4, sent := [] } }).station? 4 = none ∧
    ({ column .operate [box] with misses := 2 }).slots.length ≤ 4 ∧
    (queued .pending).offlineOutcome (lift .pending none) = some .abandoned ∧
    (lifting (lift .returned none) verifying).offlineOutcome { lift .returned none with attempts := 3 } = some .partialLift ∧
    (queued .returned).offlineOutcome (lift .returned none) = none := by decide

theorem witness_VisitMissed_parts :
    EmptyingOk { missing with actions := [held .waiting (.window 30)] } ∧
    (∃ q ∈ (held .waiting (.window 30)).parts, q.container / 4 = 5 ∧
      (({ missing with actions := [held .waiting (.window 30)] } : State).container? q.container).isSome = true) :=
  ⟨missing_emptyingOk, by decide⟩

/-- R161: the hatch that the offline notice locks starts no settle window, so a DEFERRED HL stays DEFERRED; R158: a FAULTED LL is INCLUDED. -/
theorem test_offline_starts_no_window :
    ((after .pollReplyTimeout
      { site .operate [{ admitted with settleHL := .deferred, settleLL := .faulted }] with
        stations := (List.replicate 16 (none : Option Station)).set 5
          (some { column .operate [{ admitted with settleHL := .deferred, settleLL := .faulted }] with misses := 2 })
        bus := { visiting := some 5, last := some 5, sent := [] } }).container? 20).map
      (fun k => (k.hatch.state, k.settleHL, k.settleLL)) = some (.locked, .deferred, .included) := by decide +kernel
end Sys2Proof.Tests
end

section
namespace Sys2Proof.Machine.FillEstimation

/-! ### The arithmetic of a level (section 2.5) -/

/-- The clamped distance of stage 1, written with `max` and `min`. -/
theorem levelAt_eq {x : Setup} (hx : x.fullDistance ≤ x.emptyDistance) (d : Nat) :
    x.levelAt d =
      ((x.emptyDistance - max x.fullDistance (min d x.emptyDistance)) * 2000 + (x.emptyDistance - x.fullDistance)) /
        (2 * (x.emptyDistance - x.fullDistance)) := by
  have hdc : (if d < x.fullDistance then x.fullDistance else if x.emptyDistance < d then x.emptyDistance else d) =
      max x.fullDistance (min d x.emptyDistance) := by
    split_ifs <;> omega
  simp only [Setup.levelAt, hdc]

/-- A setup in range has its bounds as propositions. -/
theorem inRange_iff (x : Setup) : x.inRange = true ↔
    (300 ≤ x.emptyDistance ∧ x.emptyDistance ≤ 4000) ∧ (100 ≤ x.fullDistance ∧ x.fullDistance + 200 ≤ x.emptyDistance) ∧ x.perWeight ≤ 255 ∧
    (1 ≤ x.alpha ∧ x.alpha ≤ 16) ∧ (1 ≤ x.confirmations ∧ x.confirmations ≤ 4) ∧
    (1 ≤ x.tNotice ∧ x.tNotice ≤ x.tFull ∧ x.tFull ≤ x.tLock ∧ x.tLock ≤ 1000) ∧ x.hysteresis ≤ 100 ∧ x.tEmpty < x.tNotice := by
  simp only [Setup.inRange, Bool.and_eq_true, decide_eq_true_eq, and_assoc]

/-- In range, E lies at least 200 above F, so the span is positive. -/
theorem span_of_inRange {x : Setup} (hx : x.inRange = true) : x.fullDistance + 200 ≤ x.emptyDistance := by
  obtain ⟨_, ⟨_, hspan⟩, _⟩ := (inRange_iff x).1 hx
  exact hspan

theorem levelAt_le {x : Setup} (hx : x.inRange = true) (d : Nat) : x.levelAt d ≤ 1000 := by
  have hspan := span_of_inRange hx
  rw [levelAt_eq (by omega)]
  exact Nat.le_of_lt_succ (Nat.div_lt_of_lt_mul (by omega))

theorem levelAt_full {x : Setup} (hx : x.inRange = true) {d : Nat} (hd : d ≤ x.fullDistance) : x.levelAt d = 1000 := by
  have hspan := span_of_inRange hx
  rw [levelAt_eq (by omega), show max x.fullDistance (min d x.emptyDistance) = x.fullDistance by omega]
  exact Nat.div_eq_of_lt_le (by omega) (by omega)

theorem levelAt_empty {x : Setup} (hx : x.inRange = true) {d : Nat} (hd : x.emptyDistance ≤ d) : x.levelAt d = 0 := by
  have hspan := span_of_inRange hx
  rw [levelAt_eq (by omega), show max x.fullDistance (min d x.emptyDistance) = x.emptyDistance by omega]
  exact Nat.div_eq_of_lt (by omega)

/-- The truncated fraction α/16 of a difference lies between 0 and the difference. -/
theorem tdiv_fraction {alpha : Nat} (ha : alpha ≤ 16) (z : Int) :
    min 0 z ≤ Int.tdiv (z * alpha) 16 ∧ Int.tdiv (z * alpha) 16 ≤ max 0 z := by
  rcases le_total 0 z with hz | hz
  · have hlow : 0 ≤ z * alpha := mul_nonneg hz (by omega)
    have hhigh : z * alpha ≤ z * 16 := mul_le_mul_of_nonneg_left (by omega) hz
    rw [Int.tdiv_eq_ediv_of_nonneg hlow]
    omega
  · have hlow : 0 ≤ -z * alpha := mul_nonneg (by omega) (by omega)
    have hhigh : -z * alpha ≤ -z * 16 := mul_le_mul_of_nonneg_left (by omega) (by omega)
    have hneg : Int.tdiv (z * alpha) 16 = -((-z * alpha) / 16) := by
      rw [← Int.tdiv_eq_ediv_of_nonneg hlow, neg_mul, Int.neg_tdiv, neg_neg]
    rw [hneg]
    omega

theorem smoothTo_cast {alpha : Nat} (ha : alpha ≤ 16) (f smoothed : Nat) :
    (smoothTo alpha f smoothed : Int) = (smoothed : Int) + Int.tdiv ((16 * (f : Int) - (smoothed : Int)) * (alpha : Int)) 16 := by
  have := tdiv_fraction ha (16 * (f : Int) - (smoothed : Int))
  unfold smoothTo
  omega

/-- S stays between its old value and 16 × f, hence within 0..16000. -/
theorem smoothTo_le {alpha f smoothed : Nat} (ha : alpha ≤ 16) (hf : f ≤ 1000) (hs : smoothed ≤ 16000) :
    smoothTo alpha f smoothed ≤ 16000 := by
  have := tdiv_fraction ha (16 * (f : Int) - (smoothed : Int))
  have := smoothTo_cast ha f smoothed
  omega

theorem smoothTo_sixteen (f smoothed : Nat) : smoothTo 16 f smoothed = 16 * f := by
  have := smoothTo_cast (le_refl 16) f smoothed
  rw [Nat.cast_ofNat, Int.mul_tdiv_cancel _ (by decide)] at this
  omega

theorem hoursToFull_reached {credited rate tFull : Nat} (h : 16 * tFull ≤ credited) : hoursToFull credited rate tFull = 0 := by
  simp [hoursToFull, h]

theorem hoursToFull_noGrowth {credited tFull : Nat} (h : credited < 16 * tFull) : hoursToFull credited 0 tFull = 255 := by
  simp [hoursToFull, Nat.not_le.2 h]

theorem hoursToFull_growth {credited rate tFull : Nat} (h : credited < 16 * tFull) (hr : 0 < rate) :
    hoursToFull credited rate tFull = min 254 ((16 * tFull - credited + rate - 1) / rate) := by
  simp [hoursToFull, Nat.not_le.2 h, hr.ne']

theorem hoursToFull_le (credited rate tFull : Nat) : hoursToFull credited rate tFull ≤ 255 := by
  unfold hoursToFull
  split_ifs <;> omega

/-- The quotient rounded up: the least number of hours that covers the distance. -/
theorem ceilDiv_bounds {n rate : Nat} (hn : 0 < n) (hr : 0 < rate) :
    1 ≤ (n + rate - 1) / rate ∧ ((n + rate - 1) / rate - 1) * rate < n ∧ n ≤ (n + rate - 1) / rate * rate := by
  have hdiv := Nat.div_add_mod (n + rate - 1) rate
  have hmod := Nat.mod_lt (n + rate - 1) hr
  have hone : 1 ≤ (n + rate - 1) / rate := (Nat.le_div_iff_mul_le hr).2 (by omega)
  rw [mul_comm] at hdiv
  refine ⟨hone, ?_, by omega⟩
  rw [Nat.sub_mul]
  omega

theorem hoursToFull_bounds {credited rate tFull : Nat} (h : credited < 16 * tFull) (hr : 0 < rate) :
    1 ≤ hoursToFull credited rate tFull ∧ hoursToFull credited rate tFull ≤ 254 ∧
      credited + (hoursToFull credited rate tFull - 1) * rate < 16 * tFull ∧
      (hoursToFull credited rate tFull < 254 → 16 * tFull ≤ credited + hoursToFull credited rate tFull * rate) := by
  obtain ⟨hone, hbelow, hreach⟩ := ceilDiv_bounds (n := 16 * tFull - credited) (by omega) hr
  rw [hoursToFull_growth h hr]
  generalize (16 * tFull - credited + rate - 1) / rate = q at *
  have hmin : (min 254 q - 1) * rate ≤ (q - 1) * rate := Nat.mul_le_mul_right _ (by omega)
  refine ⟨by omega, by omega, by omega, fun hlt => ?_⟩
  rw [show min 254 q = q by omega]
  omega

/-! ### Candidates (R51, R52) -/

theorem highest_unique {P : Nat → Prop} {m n : Nat} (hm : Highest P m) (hn : Highest P n) : m = n := by
  obtain ⟨hm3, hm, hmAbove⟩ := hm
  obtain ⟨hn3, hn, hnAbove⟩ := hn
  rcases Nat.lt_trichotomy m n with h | h | h
  · exact absurd (hn.resolve_left (by omega)) (hmAbove n h hn3)
  · exact h
  · exact absurd (hm.resolve_left (by omega)) (hnAbove m h hm3)

/-- The band of a level, each threshold lowered by `h`, is the highest threshold that the level reaches. -/
theorem highest_bandAt (x : Setup) (h l : Nat) : Highest (fun k => (x.threshold k : Int) - h ≤ l) (x.bandAt h l).number := by
  unfold Setup.bandAt
  split_ifs with hLock hFull hNotice
  · exact ⟨by decide, .inr (by simp [Setup.threshold, Band.number]; omega), fun n hn hn3 => absurd hn (by simp [Band.number]; omega)⟩
  · refine ⟨by decide, .inr (by simp [Setup.threshold, Band.number]; omega), fun n hn hn3 => ?_⟩
    obtain rfl : n = 3 := by simp [Band.number] at hn; omega
    simp [Setup.threshold]; omega
  · refine ⟨by decide, .inr (by simp [Setup.threshold, Band.number]; omega), fun n hn hn3 => ?_⟩
    obtain rfl | rfl : n = 2 ∨ n = 3 := by simp [Band.number] at hn; omega
    all_goals simp [Setup.threshold]; omega
  · refine ⟨by decide, .inl rfl, fun n hn hn3 => ?_⟩
    obtain rfl | rfl | rfl : n = 1 ∨ n = 2 ∨ n = 3 := by simp [Band.number] at hn; omega
    all_goals simp [Setup.threshold]; omega

/-- With no hysteresis the thresholds themselves are compared. -/
theorem highest_bandAt_zero (x : Setup) (l : Nat) : Highest (fun k => x.threshold k ≤ l) (x.bandAt 0 l).number := by
  simpa using highest_bandAt x 0 l

/-- Settles O30, from the bounds of each stage and from `highest_bandAt` for the candidate. -/
theorem levelArithmetic : Obligations.LevelArithmetic := by
  unfold Obligations.LevelArithmetic
  refine ⟨fun x d hx => ?_, fun alpha f smoothed _ ha hf hs => ?_, fun credited rate tFull => ?_, fun x b l up down hup hdown => ?_⟩
  · exact ⟨levelAt_eq (by have := span_of_inRange hx; omega) d, levelAt_le hx d, levelAt_full hx, levelAt_empty hx⟩
  · exact ⟨smoothTo_cast ha f smoothed, smoothTo_le ha hf hs, smoothTo_sixteen f smoothed⟩
  · exact ⟨hoursToFull_reached, fun h hr => hr ▸ hoursToFull_noGrowth h, hoursToFull_bounds⟩
  · rw [highest_unique hup (highest_bandAt_zero x l), highest_unique hdown (highest_bandAt x x.hysteresis l)]
    unfold Setup.candidate
    split_ifs <;> rfl

end Sys2Proof.Machine.FillEstimation
end

section
namespace Sys2Proof.Machine.FillEstimation

/-! ### Updates of one container compose -/

theorem updStation_updStation (s : State) (t : Nat) (f g : Station → Station) :
    (s.updStation t f).updStation t g = s.updStation t (g ∘ f) := by
  simp [State.updStation, List.modify_modify_eq, Option.map_comp_map]

theorem updContainer_updContainer (s : State) (c : Nat) (f g : Container → Container) :
    (s.updContainer c f).updContainer c g = s.updContainer c (g ∘ f) := by
  simp [State.updContainer, updStation_updStation, Function.comp_def, List.modify_modify_eq]

theorem updEst_updEst (s : State) (c : Nat) (f g : Estimator → Estimator) :
    (s.updEst c f).updEst c g = s.updEst c (g ∘ f) := updContainer_updContainer s c _ _

/-- An update of a container depends on its function at that container alone. -/
theorem updContainer_congr {s : State} {c : Nat} {f g : Container → Container} (h : ∀ k, s.container? c = some k → f k = g k) :
    s.updContainer c f = s.updContainer c g := by
  have hslots : ∀ st, s.station? (c / 4) = some st → st.slots.modify (c % 4) f = st.slots.modify (c % 4) g := by
    intro st hst
    apply List.ext_getElem?
    intro j
    simp only [List.getElem?_modify]
    by_cases hj : c % 4 = j
    · subst hj
      rcases hk : st.slots[c % 4]? with _ | k
      · rfl
      · simp [h k (by simpa [State.container?, hst] using hk)]
    · simp [hj]
  have hstations : (s.updContainer c f).stations = (s.updContainer c g).stations := by
    apply List.ext_getElem?
    intro i
    simp only [State.updContainer, State.updStation, List.getElem?_modify]
    by_cases hi : c / 4 = i
    · subst hi
      rcases hst : s.stations[c / 4]? with _ | _ | st
      · rfl
      · rfl
      · simp [hslots st (by simp [State.station?, hst])]
    · simp [hi]
  exact congrArg (fun l => { s with stations := l }) hstations

theorem updContainer_id (s : State) (c : Nat) : s.updContainer c (fun k => k) = s := by
  have hmap : (Option.map fun st : Station => { st with slots := st.slots.modify (c % 4) fun k => k }) = id := by
    funext o
    cases o with
    | none => rfl
    | some st => exact congrArg some (congrArg (fun l => { st with slots := l }) (List.modify_id _ _))
  unfold State.updContainer State.updStation
  rw [hmap, List.modify_id]

/-- Updating a container to what it is already changes nothing. -/
theorem updContainer_eq_self {s : State} {c : Nat} {f : Container → Container} (h : ∀ k, s.container? c = some k → f k = k) :
    s.updContainer c f = s := (updContainer_congr h).trans (updContainer_id s c)

theorem container?_updContainer_self {s : State} {c : Nat} {k : Container} (hk : s.container? c = some k) (f : Container → Container) :
    (s.updContainer c f).container? c = some (f k) := by
  rw [State.container?_updContainer, if_pos rfl, hk]; rfl

/-! ### What the estimator holds for a container -/

/-- The part of a container's record that the estimator answers for: its setups, the estimator record, the pending flags and the request marker. -/
def gauge (k : Container) : Option Setup × Option Setup × Estimator × ContainerFlags × Option Marker :=
  (k.latched, k.written, k.est, k.flags, k.marker)

/-- The gauges of all containers in use. -/
def gauges (s : State) (c : Nat) : Option (Option Setup × Option Setup × Estimator × ContainerFlags × Option Marker) :=
  (s.container? c).map gauge

theorem gauges_congr {s t : State} (h : t.stations = s.stations) : gauges t = gauges s := by
  funext c; unfold gauges; rw [State.container?_congr h]

theorem gauges_of_container? {s t : State} (h : ∀ c, t.container? c = s.container? c) : gauges t = gauges s := by
  funext c; unfold gauges; rw [h]

theorem gauges_updContainer {s : State} {c : Nat} {f : Container → Container} (hf : ∀ k, gauge (f k) = gauge k) :
    gauges (s.updContainer c f) = gauges s := by
  funext d
  unfold gauges
  rw [State.container?_updContainer]
  split_ifs with h
  · subst h
    rw [Option.map_map]
    exact congrArg (Option.map · _) (funext hf)
  · rfl

theorem gauges_updContainer_apply (s : State) (c d : Nat) (f : Container → Container) :
    gauges (s.updContainer c f) d = if d = c then (s.container? c).map (gauge ∘ f) else gauges s d := by
  unfold gauges
  rw [State.container?_updContainer]
  split_ifs <;> simp

/-- From a gauge read the container. -/
theorem exists_container_of_gauges {s t : State} (h : gauges t = gauges s) {c : Nat} {k : Container} (hk : s.container? c = some k) :
    ∃ k', t.container? c = some k' ∧ gauge k' = gauge k := by
  have := congrFun h c
  simpa [gauges, hk] using this

end Sys2Proof.Machine.FillEstimation
end

section
namespace Sys2Proof.Machine.FillEstimation

/-! ### The collection list, the report queue, the operations and the hatches keep every gauge -/

section
variable (s : State) (c t h : Nat)

@[simp] theorem gauges_place (e : Entry) : gauges (s.place e) = gauges s := rfl
@[simp] theorem gauges_unlist : gauges (s.unlist c) = gauges s := rfl
@[simp] theorem gauges_countClaim : gauges s.countClaim = gauges s := rfl
@[simp] theorem gauges_addStarted : gauges (s.addStarted c) = gauges s := rfl
@[simp] theorem gauges_postResult (e : Event) (r : ActionResult) (m : BitVec 4) : gauges (s.postResult e r m) = gauges s := rfl
@[simp] theorem gauges_post (cls : EventClass) (st k : Option Nat) (b : EventBody) : gauges (s.post cls st k b) = gauges s := rfl
@[simp] theorem gauges_postAt (cls : EventClass) (b : EventBody) : gauges (s.postAt cls c b) = gauges s := rfl
@[simp] theorem gauges_postListEntry (e : Entry) (r : Option Reason) : gauges (s.postListEntry e r) = gauges s := rfl
@[simp] theorem gauges_updOp (f : Operation → Operation) : gauges (s.updOp c f) = gauges s := rfl
@[simp] theorem gauges_freeOperation (n : Nat) : gauges (s.freeOperation c n) = gauges s := rfl
@[simp] theorem gauges_updDirectory (f : Directory → Directory) : gauges (s.updDirectory f) = gauges s := rfl
@[simp] theorem gauges_updCard (id : CardId) (f : Card → Card) : gauges (s.updCard id f) = gauges s := rfl
@[simp] theorem gauges_giveBack (a : Admission) : gauges (s.giveBack a) = gauges s := rfl
@[simp] theorem gauges_commit (a : Admission) : gauges (s.commit a) = gauges s := rfl
@[simp] theorem gauges_endVisit : gauges s.endVisit = gauges s := rfl

@[simp] theorem gauges_updPort (p : Port) (f : PortState → PortState) : gauges (s.updPort p f) = gauges s :=
  gauges_congr (by simp)

@[simp] theorem gauges_reply (p : Port) (kind : Byte) (code : ResultCode) (data : List Byte) : gauges (s.reply p kind code data) = gauges s :=
  gauges_updPort s p _

@[simp] theorem gauges_updGrant (f : Grant → Grant) : gauges (s.updGrant f) = gauges s := rfl

@[simp] theorem gauges_changeImage (f : Outputs → Outputs) : gauges (s.changeImage c f) = gauges s := by
  funext d
  unfold gauges
  rw [State.container?_changeImage]
  split_ifs with hd
  · subst hd
    rw [Option.map_map]; rfl
  · rfl

@[simp] theorem gauges_setLock (o : Output) : gauges (s.setLock c o) = gauges s := gauges_changeImage s c _
@[simp] theorem gauges_setLatch (o : Output) : gauges (s.setLatch c o) = gauges s := gauges_changeImage s c _

@[simp] theorem gauges_showLamp (l : Lamp) : gauges (s.showLamp c l) = gauges s := by
  rw [State.showLamp, gauges_updContainer, gauges_changeImage]
  exact fun _ => rfl

@[simp] theorem gauges_insertionRequest (x : Reason) : gauges (s.insertionRequest c x h) = gauges s := by
  unfold State.insertionRequest
  split
  · rfl
  · split <;> rfl

@[simp] theorem gauges_forecastEvaluation : gauges (s.forecastEvaluation c h) = gauges s := by
  unfold State.forecastEvaluation
  split <;> split <;> simp

@[simp] theorem gauges_claimEntry : gauges (s.claimEntry c) = gauges s := by
  unfold State.claimEntry
  split
  · split <;> simp
  · rfl

@[simp] theorem gauges_claimRequest : gauges (s.claimRequest c) = gauges s := by
  unfold State.claimRequest
  split <;> simp

@[simp] theorem gauges_releaseWith (x : Reason) : gauges (s.releaseWith c x) = gauges s := by
  unfold State.releaseWith
  split
  · rfl
  · dsimp only; split <;> rfl

@[simp] theorem gauges_listOutcome (o : LiftOutcome) : gauges (s.listOutcome c o) = gauges s := by
  cases o <;> simp [State.listOutcome]

@[simp] theorem gauges_completeActions : gauges s.completeActions = gauges s := gauges_congr (onlyActions_completeActions s).stations

@[simp] theorem gauges_updParts (f : PartState → PartState) : gauges (s.updParts c f) = gauges s :=
  gauges_congr (onlyActions_updParts s c f).stations

@[simp] theorem gauges_followParts : gauges (s.followParts c) = gauges s := gauges_congr (State.followParts_stations s c)

@[simp] theorem gauges_evaluate : gauges (s.evaluate t) = gauges s := gauges_of_container? (container?_evaluate s t)

@[simp] theorem gauges_patternChange (old : PerContact (Option Bool)) : gauges (s.patternChange c old) = gauges s := by
  unfold State.patternChange
  split
  · rfl
  · exact (gauges_evaluate _ _).trans (gauges_updContainer fun _ => rfl)

theorem gauges_withPattern {f : State → State} (hf : ∀ s, gauges (f s) = gauges s) : gauges (s.withPattern c f) = gauges s := by
  simp [State.withPattern, hf]

@[simp] theorem gauges_settleContacts : gauges (s.settleContacts c) = gauges s := by
  unfold State.settleContacts
  split
  · rfl
  · exact gauges_updContainer fun _ => rfl

@[simp] theorem gauges_exitTest : gauges (s.exitTest c) = gauges s := by
  unfold State.exitTest State.enterUnlatched
  split
  · rw [gauges_withPattern _ _ fun s => gauges_updOp s c _, gauges_setLatch]
  · rfl

@[simp] theorem gauges_changeHatch (f : HatchRecord → HatchRecord) : gauges (s.changeHatch c f) = gauges s := by
  have hmoved : gauges ((s.withPattern c (State.updContainer c fun k => { k with hatch := f k.hatch })).followParts c) = gauges s := by
    rw [gauges_followParts, gauges_withPattern]
    exact fun s => gauges_updContainer fun _ => rfl
  unfold State.changeHatch
  dsimp only
  split
  · rw [gauges_exitTest, hmoved]
  · exact hmoved

@[simp] theorem gauges_lockHatch (r : HatchRecord) : gauges (s.lockHatch c r) = gauges s := by
  unfold State.lockHatch State.returnAdmission
  split <;> simp

@[simp] theorem gauges_withdraw : gauges (s.withdraw c) = gauges s := by
  unfold State.withdraw
  split
  · rfl
  · split <;> simp

@[simp] theorem gauges_blockRequest (b : BlockCause) : gauges (s.blockRequest c b) = gauges s := by
  unfold State.blockRequest
  rw [gauges_withdraw]
  exact gauges_updContainer fun _ => rfl

/-- Raising an event keeps every gauge, whatever action is bound to its class. -/
@[simp] theorem gauges_raise (cls : EventClass) (k : Option Nat) (named : List Nat) (b : EventBody) :
    gauges (s.raise cls t k named b) = gauges s := by
  have hlock : ∀ (e : Event) (cs : List Nat), gauges (s.startLock e cs) = gauges s := fun e cs => by
    unfold State.startLock
    dsimp only
    rw [gauges_completeActions]
    exact forEach_keeps gauges cs _ s fun c s => gauges_blockRequest s c _
  unfold State.raise
  dsimp only
  split
  · rfl
  · exact hlock _ _
  · exact hlock _ _
  · rw [gauges_postResult]
    exact forEach_keeps gauges _ _ s fun c s => gauges_insertionRequest s c _ _

@[simp] theorem gauges_raiseAt (cls : EventClass) (b : EventBody) : gauges (s.raiseAt cls c b) = gauges s := gauges_raise s _ _ _ _ _

@[simp] theorem gauges_start (by' : StartBy) : gauges (s.start c by') = gauges s := by
  have hmade : ∀ s : State, gauges (s.makeOperation c by') = gauges s := fun s => by
    unfold State.makeOperation; split <;> rfl
  unfold State.start
  dsimp only
  split <;> simp [gauges_withPattern _ _ hmade]

/-! ### Presentations keep every gauge -/

@[simp] theorem gauges_deny (id : CardId) (code : RefusalCode) : gauges (s.deny c id code) = gauges s := by
  unfold State.deny State.showRefusal
  split <;> simp

@[simp] theorem gauges_serve (id : CardId) : gauges (s.serve c id) = gauges s := by
  have hwatch : gauges (s.watchStep c id) = gauges s := by unfold State.watchStep; split <;> rfl
  have hcrew : ∀ s : State, gauges (s.crewStart c id) = gauges s := fun s => by unfold State.crewStart; split <;> simp
  have hadmit : ∀ (s : State) (a : Admission), gauges (s.admitCard c a) = gauges s := fun s a => by simp [State.admitCard]
  have hreserve : ∀ (s : State) (k : Container) (r : Card), gauges (s.reserveAndAdmit c k r) = gauges s := fun s k r => by
    unfold State.reserveAndAdmit
    dsimp only
    split <;> simp [hadmit]
  have hsteps : ∀ (s : State) (k : Container), gauges (s.directorySteps c k id) = gauges s := fun s k => by
    unfold State.directorySteps
    split
    · simp
    · split_ifs
      · simp
      · simp
      · exact hcrew s
      · split
        · simp
        · exact hreserve s k _
  unfold State.serve
  split
  · rfl
  · dsimp only
    split_ifs
    · simp
    · simp
    · simp [hwatch]
    · rw [hsteps, hwatch]

@[simp] theorem gauges_present (id : CardId) : gauges (s.present c id) = gauges s := by
  unfold State.present
  split
  · simp
  · split
    · rfl
    · simp

@[simp] theorem gauges_serveWaiting : gauges s.serveWaiting = gauges s :=
  foldl_keeps gauges _ _ _ fun s p => gauges_serve s p.container p.card

end

end Sys2Proof.Machine.FillEstimation
end

section
namespace Sys2Proof.Machine.FillEstimation

/-! ### Changes of the estimator record and the flags of one container -/

/-- A change of a container's estimator record and, by that record, of its flags. -/
def remeasure (g : Estimator → Estimator) (h : Estimator → ContainerFlags → ContainerFlags) (k : Container) : Container :=
  { k with est := g k.est, flags := h k.est k.flags }

theorem updEst_eq_remeasure (s : State) (c : Nat) (g : Estimator → Estimator) :
    s.updEst c g = s.updContainer c (remeasure g fun _ f => f) := rfl

theorem updContainer_remeasure_remeasure (s : State) (c : Nat) (g₁ g₂ : Estimator → Estimator)
    (h₁ h₂ : Estimator → ContainerFlags → ContainerFlags) :
    (s.updContainer c (remeasure g₁ h₁)).updContainer c (remeasure g₂ h₂) =
      s.updContainer c (remeasure (g₂ ∘ g₁) fun e f => h₂ (g₁ e) (h₁ e f)) :=
  updContainer_updContainer s c _ _

/-- What such a change makes of the gauges depends on the gauges alone. -/
theorem gauges_remeasure_congr {s t : State} (h : gauges t = gauges s) (c : Nat) (g : Estimator → Estimator)
    (f : Estimator → ContainerFlags → ContainerFlags) :
    gauges (t.updContainer c (remeasure g f)) = gauges (s.updContainer c (remeasure g f)) := by
  have hmap : ∀ s : State, (s.container? c).map (gauge ∘ remeasure g f) =
      (gauges s c).map fun ⟨latched, written, est, flags, marker⟩ => (latched, written, g est, f est flags, marker) := fun s => by
    unfold gauges
    rw [Option.map_map]
    rfl
  funext d
  rw [gauges_updContainer_apply, gauges_updContainer_apply, hmap, hmap, h]

/-! ### The passages of a band change (R58, R59) -/

theorem levelOf_eq {s : State} {c : Nat} {k : Container} (hk : s.container? c = some k) : s.levelOf c = k.est.level := by
  simp [State.levelOf, hk]

theorem forecastOf_eq {s : State} {c : Nat} {k : Container} (hk : s.container? c = some k) : s.forecastOf c = k.est.forecast := by
  simp [State.forecastOf, hk]

theorem levelOf_updContainer {s : State} {c : Nat} {f : Container → Container} (hf : ∀ k, (f k).est.level = k.est.level) :
    (s.updContainer c f).levelOf c = s.levelOf c := by
  unfold State.levelOf
  rw [State.container?_updContainer, if_pos rfl, Option.map_map]
  exact congrArg (Option.getD · 0) (congrArg (Option.map · _) (funext hf))

theorem passed_nil (f : ContainerFlags) : f.passed [] = f := by simp [ContainerFlags.passed]

theorem passed_setPassage {i : Nat} (hi : i = 1 ∨ i = 2 ∨ i = 3) (is : List Nat) (f : ContainerFlags) :
    (f.setPassage i).passed is = f.passed (i :: is) := by
  rcases hi with rfl | rfl | rfl <;> simp [ContainerFlags.passed, ContainerFlags.setPassage]

/-- The report queue after a LEVEL_PASSAGE for each of these thresholds. -/
def reportCrossings (s : State) (c : Nat) (up : Bool) (l : Nat) (is : List Nat) (q : Report) : Report :=
  is.foldl (fun q i => s.reportAt c .levelPassage (.levelPassage i up l) q) q

/-- Reporting passages one after another sets their flags and posts them in order. -/
theorem forEach_reportPassage (c : Nat) (up : Bool) (is : List Nat) (his : ∀ i ∈ is, i = 1 ∨ i = 2 ∨ i = 3) (s : State) :
    forEach is (State.reportPassage c up) s =
      { s.updFlags c (ContainerFlags.passed is) with report := reportCrossings s c up (s.levelOf c) is s.report } := by
  induction is generalizing s with
  | nil =>
    have : s.updFlags c (ContainerFlags.passed []) = s := updContainer_eq_self fun k _ => by simp [passed_nil]
    rw [this]; rfl
  | cons i is ih =>
    have hone : s.reportPassage c up i =
        { s.updFlags c (ContainerFlags.setPassage i) with
          report := s.reportAt c .levelPassage (.levelPassage i up (s.levelOf c)) s.report } := rfl
    have hlevel : (s.reportPassage c up i).levelOf c = s.levelOf c := levelOf_updContainer (s := s) fun _ => rfl
    have hflags : (s.updFlags c (ContainerFlags.setPassage i)).updFlags c (ContainerFlags.passed is) =
        s.updFlags c (ContainerFlags.passed (i :: is)) := by
      refine (updContainer_updContainer s c _ _).trans (updContainer_congr fun k _ => ?_)
      simp [passed_setPassage (his i (by simp))]
    have hrest := ih (fun j hj => his j (by simp [hj])) (s.reportPassage c up i)
    rw [hlevel] at hrest
    refine hrest.trans ?_
    rw [← hflags]
    rfl

theorem reports_up (m : PassageMode) : m.reports true = decide (m = .up ∨ m = .both) := by cases m <;> rfl
theorem reports_down (m : PassageMode) : m.reports false = decide (m = .down ∨ m = .both) := by cases m <;> rfl

/-- The reported crossings are the crossings filtered by the passage modes (R58). -/
theorem filter_crossings (x : Setup) (b b' : Band) :
    ((crossings b b').filter fun i => (x.passageMode i).reports (decide (b.number < b'.number))) = x.reported (some b) b' := by
  unfold crossings
  simp only [Setup.reported]
  split_ifs with hup
  · rw [decide_eq_true hup, show ([1, 2, 3] : List Nat) = [(1, x.passNotice), (2, x.passFull), (3, x.passLock)].map Prod.fst from rfl,
      List.filter_map, List.filter_map, List.filter_filter]
    refine congrArg _ (List.filter_congr fun m hm => ?_)
    simp only [List.mem_cons, List.not_mem_nil, or_false] at hm
    rcases hm with rfl | rfl | rfl <;> simp [Setup.passageMode, reports_up, Bool.and_comm, Bool.and_left_comm]
  · rw [decide_eq_false hup, show ([3, 2, 1] : List Nat) = [(3, x.passLock), (2, x.passFull), (1, x.passNotice)].map Prod.fst from rfl,
      List.filter_map, List.filter_map, List.filter_filter]
    refine congrArg _ (List.filter_congr fun m hm => ?_)
    simp only [List.mem_cons, List.not_mem_nil, or_false] at hm
    rcases hm with rfl | rfl | rfl <;> simp [Setup.passageMode, reports_down, Bool.and_comm, Bool.and_assoc]

theorem crossings_mem {b b' : Band} {i : Nat} (hi : i ∈ crossings b b') : i = 1 ∨ i = 2 ∨ i = 3 := by
  unfold crossings at hi
  split at hi <;> (have := List.mem_of_mem_filter hi; simp at this; omega)

theorem reported_mem {x : Setup} {old : Option Band} {new : Band} {i : Nat} (hi : i ∈ x.reported old new) : i = 1 ∨ i = 2 ∨ i = 3 := by
  cases old with
  | none => cases hi
  | some b =>
    rw [← filter_crossings] at hi
    exact crossings_mem (List.mem_of_mem_filter hi)

theorem reported_self (x : Setup) (b : Band) : x.reported (some b) b = [] := by
  have : crossings b b = [] := by cases b <;> decide
  rw [← filter_crossings, this]; rfl

/-! ### A band change (R57) -/

/-- The estimator record of a container that enters band `b`, its band filter starting afresh. -/
def entered (b : Band) (e : Estimator) : Estimator := { e with band := some b, candidate := none, count := 0 }

/-- The estimator record of a container that enters band `b`, H given anew. -/
def banded (x : Setup) (b : Band) (e : Estimator) : Estimator := (entered b e).forecastNow x

/-- The container of a band change, with the flags of its reported crossings. -/
def rebanded (x : Setup) (old : Option Band) (new : Band) : Container → Container :=
  remeasure (banded x new) fun _ f => f.passed (x.reported old new)

/-- The direction in which a band change crosses thresholds. -/
def movesUp (old : Option Band) (new : Band) : Bool := old.any fun b => decide (b.number < new.number)

/-- The steps of R57, the passages those of `Setup.reported`. -/
theorem changeBand_steps (s : State) (c : Nat) (x : Setup) (old : Option Band) (new : Band) :
    s.changeBand c x old new =
      let s' := State.updEst c (Estimator.forecastNow x)
        (forEach (x.reported old new) (State.reportPassage c (movesUp old new)) (s.updEst c (entered new)))
      s'.bandRequests c old new (s'.forecastOf c) := by
  cases old with
  | none => rfl
  | some b => rw [← filter_crossings]; rfl

/-- A band change: the band and H, the passages, and then the list's requests with the new H. -/
theorem changeBand_eq {s : State} {c : Nat} {k : Container} (hk : s.container? c = some k) (x : Setup) (old : Option Band) (new : Band) :
    s.changeBand c x old new =
      State.bandRequests c old new (banded x new k.est).forecast
        { s.updContainer c (rebanded x old new) with
          report := reportCrossings s c (movesUp old new) k.est.level (x.reported old new) s.report } := by
  have hmoved : ((s.updEst c (entered new)).updFlags c (ContainerFlags.passed (x.reported old new))).updEst c (Estimator.forecastNow x) =
      s.updContainer c (rebanded x old new) :=
    (updContainer_updContainer _ c _ _).trans (updContainer_updContainer s c _ _)
  have hlevel : (s.updEst c (entered new)).levelOf c = k.est.level := by
    rw [State.updEst, levelOf_updContainer, levelOf_eq hk]
    exact fun _ => rfl
  have hforecast : (s.updContainer c (rebanded x old new)).forecastOf c = (banded x new k.est).forecast :=
    forecastOf_eq (container?_updContainer_self hk _)
  rw [changeBand_steps, forEach_reportPassage c _ _ fun i => reported_mem, hlevel, ← hforecast, ← hmoved]
  rfl

end Sys2Proof.Machine.FillEstimation
end

section
namespace Sys2Proof.Machine.FillEstimation

/-! ### What a request of a band change does to the collection list (R61, R115 to R117) -/

/-- An entry of the list, if there is one, and the entries that LIST_ENTRY has been posted for, with the reasons before. -/
abbrev Listing := Option Entry × List (Entry × Option Reason)

/-- The report queue after a LIST_ENTRY of container `c` at level `l` for each of these entries. -/
def reportEntries (s : State) (c l : Nat) (posts : List (Entry × Option Reason)) (q : Report) : Report :=
  posts.foldl (fun q p => s.reportAt c .listEntry (.listEntry p.1.reason p.2 p.1.claimed p.1.forecast l) q) q

/-- From `s` to `t` the list alone has changed, at container `c`, with its postings at level `l`. -/
structure Listed (s : State) (c l : Nat) (r : Listing) (t : State) : Prop where
  entry : t.entry? c = r.1
  others : ∀ d, d ≠ c → t.entry? d = s.entry? d
  report : t.report = reportEntries s c l r.2 s.report
  frame : { t with collection := s.collection, report := s.report } = s

theorem Listed.refl (s : State) (c l : Nat) : Listed s c l (s.entry? c, []) s := ⟨rfl, fun _ _ => rfl, rfl, rfl⟩

theorem Listed.stations {s t : State} {c l : Nat} {r : Listing} (h : Listed s c l r t) : t.stations = s.stations :=
  have := congrArg State.stations h.frame
  this

theorem Listed.levelOf {s t : State} {c l : Nat} {r : Listing} (h : Listed s c l r t) : t.levelOf c = s.levelOf c := by
  unfold State.levelOf; rw [State.container?_congr h.stations]

theorem Listed.freshEntry {s t : State} {c l : Nat} {r : Listing} (h : Listed s c l r t) (n : Nat) : t.freshEntry c n = s.freshEntry c n := by
  rw [← h.frame]; rfl

theorem Listed.trans {s t u : State} {c l : Nat} {r₁ r₂ : Listing} (h₁ : Listed s c l r₁ t) (h₂ : Listed t c l r₂ u) :
    Listed s c l (r₂.1, r₁.2 ++ r₂.2) u where
  entry := h₂.entry
  others d hd := (h₂.others d hd).trans (h₁.others d hd)
  report := by
    have hreport : reportEntries t c l r₂.2 = reportEntries s c l r₂.2 := by rw [← h₁.frame]; rfl
    rw [h₂.report, hreport, h₁.report]
    simp [reportEntries, List.foldl_append]
  frame := by
    have hframe := h₁.frame
    rw [← h₂.frame] at hframe
    exact hframe

/-- A request that is made under a condition. -/
theorem Listed.ite {s t : State} {c l : Nat} {r : Listing} (p : Prop) [Decidable p] (h : Listed s c l r t) :
    Listed s c l (if p then r else (s.entry? c, [])) (if p then t else s) := by
  split
  · exact h
  · exact Listed.refl s c l

theorem entry?_container {s : State} {c : Nat} {e : Entry} (h : s.entry? c = some e) : e.container = c := by
  simpa using List.find?_some h

theorem listed_place (s : State) {c : Nat} (l : Nat) {e : Entry} (he : e.container = c) : Listed s c l (some e, []) (s.place e) :=
  ⟨by rw [State.entry?_place, if_pos he.symm], fun d hd => by rw [State.entry?_place, if_neg (he ▸ hd)], rfl, rfl⟩

theorem listed_unlist (s : State) (c l : Nat) : Listed s c l (none, []) (s.unlist c) :=
  ⟨by rw [State.entry?_unlist, if_pos rfl], fun d hd => by rw [State.entry?_unlist, if_neg hd], rfl, rfl⟩

theorem listed_placePost {s : State} {c l : Nat} (e : Entry) (he : e.container = c) (hl : s.levelOf c = l) (r : Option Reason) :
    Listed s c l (some e, [(e, r)]) ((s.place e).postListEntry e r) := by
  have hplace := listed_place s l he
  have hpost : Listed (s.place e) c l (some e, [(e, r)]) ((s.place e).postListEntry e r) :=
    ⟨hplace.entry, fun _ _ => rfl, by subst he hl; rfl, rfl⟩
  exact hplace.trans hpost

/-- What an insertion request for reason `r` makes of an entry, `fresh` being what it would enter (R115). -/
def inserted (fresh : Entry) (r : Reason) : Option Entry → Listing
  | none => (some { fresh with reason := r }, [({ fresh with reason := r }, none)])
  | some e =>
    if r.code < e.reason.code then
      (some { e with reason := r, forecast := fresh.forecast }, [({ e with reason := r, forecast := fresh.forecast }, some e.reason)])
    else (some { e with forecast := fresh.forecast }, [])

/-- What a downgrade request makes of an entry (R116). -/
def downgraded (h : Nat) : Option Entry → Listing
  | none => (none, [])
  | some e =>
    if e.reason = .lockout then
      (some { e with reason := .full, forecast := h }, [({ e with reason := .full, forecast := h }, some .lockout)])
    else (some { e with forecast := h }, [])

/-- What a removal request makes of an entry (R117). -/
def removed (h : Nat) : Option Entry → Listing
  | none => (none, [])
  | some e => if e.reason = .full ∧ e.claimed = false then (none, []) else (some { e with forecast := h }, [])

theorem listed_insertionRequest {s : State} {c l : Nat} (hl : s.levelOf c = l) (r : Reason) (h : Nat) :
    Listed s c l (inserted (s.freshEntry c h) r (s.entry? c)) (s.insertionRequest c r h) := by
  unfold State.insertionRequest
  rcases he : s.entry? c with _ | e
  · exact listed_placePost { s.freshEntry c h with reason := r } rfl hl none
  · have hc := entry?_container he
    dsimp only [inserted]
    split
    · exact listed_placePost { e with reason := r, forecast := h } hc hl _
    · exact listed_place s l (e := { e with forecast := h }) hc

theorem listed_downgradeRequest {s : State} {c l : Nat} (hl : s.levelOf c = l) (h : Nat) :
    Listed s c l (downgraded h (s.entry? c)) (s.downgradeRequest c h) := by
  have hnone := Listed.refl s c l
  unfold State.downgradeRequest
  rcases he : s.entry? c with _ | e
  · rwa [he] at hnone
  · have hc := entry?_container he
    dsimp only [downgraded]
    split
    · exact listed_placePost { e with reason := .full, forecast := h } hc hl _
    · exact listed_place s l (e := { e with forecast := h }) hc

theorem listed_removalRequest (s : State) (c l h : Nat) :
    Listed s c l (removed h (s.entry? c)) (s.removalRequest c h) := by
  have hnone := Listed.refl s c l
  unfold State.removalRequest
  rcases he : s.entry? c with _ | e
  · rwa [he] at hnone
  · have hc := entry?_container he
    dsimp only [removed]
    split
    · exact listed_unlist s c l
    · exact listed_place s l (e := { e with forecast := h }) hc

/-- The requests of a band change one after another, as they act on an entry (R61). -/
def bandRequested (old : Option Band) (new : Band) (fresh : Entry) (e : Option Entry) : Listing :=
  let down : Listing := if old = some .lockout ∧ new ≠ .lockout then downgraded fresh.forecast e else (e, [])
  let kept : Listing := if (old = some .full ∨ old = some .lockout) ∧ new.number < 2 then removed fresh.forecast down.1 else (down.1, [])
  let full : Listing := if new = .full then inserted fresh .full kept.1 else (kept.1, [])
  let locked : Listing := if new = .lockout then inserted fresh .lockout full.1 else (full.1, [])
  (locked.1, down.2 ++ (kept.2 ++ (full.2 ++ locked.2)))

/-- `bandListing` says of every change of band what its requests do one after another. -/
theorem bandRequested_eq_bandListing {old : Option Band} {new : Band} (hne : old ≠ some new) (fresh : Entry) (e : Option Entry) :
    bandRequested old new fresh e = bandListing old new fresh e := by
  rcases e with _ | ⟨n, reason, claimed, day, second, forecast⟩
  · rcases old with _ | _ | _ | _ | _ <;> cases new <;> simp at hne <;> rfl
  · rcases old with _ | _ | _ | _ | _ <;> cases new <;> simp at hne <;> cases reason <;> cases claimed <;> rfl

/-- What the requests of a band change do to the list is what `bandListing` says. -/
theorem listed_bandRequests {s : State} {c l : Nat} {old : Option Band} {new : Band} (hl : s.levelOf c = l) (hne : old ≠ some new) (h : Nat) :
    Listed s c l (bandListing old new (s.freshEntry c h) (s.entry? c)) (s.bandRequests c old new h) := by
  rw [← bandRequested_eq_bandListing hne]
  have hdown := (listed_downgradeRequest hl h).ite (old = some .lockout ∧ new ≠ .lockout)
  have hkept := (listed_removalRequest _ c l h).ite (s := if old = some .lockout ∧ new ≠ .lockout then s.downgradeRequest c h else s)
    ((old = some .full ∨ old = some .lockout) ∧ new.number < 2)
  rw [hdown.entry] at hkept
  have h₂ := hdown.trans hkept
  have hfull := (listed_insertionRequest (h₂.levelOf.trans hl) .full h).ite (new = .full)
  rw [h₂.entry, h₂.freshEntry] at hfull
  have h₃ := h₂.trans hfull
  have hlocked := (listed_insertionRequest (h₃.levelOf.trans hl) .lockout h).ite (new = .lockout)
  rw [h₃.entry, h₃.freshEntry] at hlocked
  have h₄ := hdown.trans (hkept.trans (hfull.trans hlocked))
  exact h₄

end Sys2Proof.Machine.FillEstimation
end

section
namespace Sys2Proof.Machine.FillEstimation

/-! ### The band evaluation of a sample (R53, R54) -/

/-- The band that a seed gives at once (R54). -/
def seedBand (x : Setup) (e : Estimator) : Band :=
  match e.band with
  | none => x.bandAt 0 e.level
  | some b => x.candidate b e.level

/-- The count of agreeing samples that the band filter reaches with the candidate `b` (R53). -/
def agreeing (e : Estimator) (b : Band) : Nat := if e.candidate = some b then e.count + 1 else 1

/-- The estimator record after the band evaluation of a sample (R53, R54). -/
def evaluated (x : Setup) (seed : Bool) (e : Estimator) : Estimator :=
  if seed then banded x (seedBand x e) e
  else
    match e.band with
    | none => e
    | some b =>
      if x.candidate b e.level = b then { e with candidate := none, count := 0 }
      else if x.confirmations ≤ agreeing e (x.candidate b e.level) then banded x (x.candidate b e.level) e
      else { e with candidate := some (x.candidate b e.level), count := agreeing e (x.candidate b e.level) }

/-- The flags after the band evaluation of a sample: those of the crossings that it reports (R59). -/
def evaluatedFlags (x : Setup) (seed : Bool) (e : Estimator) (f : ContainerFlags) : ContainerFlags :=
  f.passed (match (evaluated x seed e).band with
    | some new => x.reported e.band new
    | none => [])

/-- The evaluation that an accepted sample makes of its container. -/
def evaluateBand (c : Nat) (x : Setup) (seed : Bool) (e : Estimator) (s : State) : State :=
  if seed then s.evaluateSeed c x e else s.evaluateSample c x e

/-- What the band evaluation of a sample does from `s` to `t`: the record and the flags of the container, its entry, and the postings. -/
structure Evaluated (s : State) (c : Nat) (x : Setup) (seed : Bool) (k : Container) (t : State) : Prop where
  stations : t.stations = (s.updContainer c (remeasure (evaluated x seed) (evaluatedFlags x seed))).stations
  frame : { t with stations := s.stations, collection := s.collection, report := s.report } = s
  entry : ∀ new, (evaluated x seed k.est).band = some new →
    t.entry? c = (bandListing k.est.band new (s.freshEntry c (evaluated x seed k.est).forecast) (s.entry? c)).1
  others : ∀ d, d ≠ c → t.entry? d = s.entry? d
  report : ∀ new, (evaluated x seed k.est).band = some new →
    t.report = s.reportBand c x k.est.band new k.est.level (evaluated x seed k.est).forecast s.report
  unchanged : (evaluated x seed k.est).band = k.est.band → t.collection = s.collection ∧ t.report = s.report

theorem bandListing_self (b : Band) (fresh : Entry) (e : Option Entry) : bandListing (some b) b fresh e = (e, []) := by
  simp [bandListing]

/-- An evaluation that leaves the band as it was touches the record alone. -/
theorem Evaluated.of_same {s : State} {c : Nat} {x : Setup} {seed : Bool} {k : Container} (hk : s.container? c = some k)
    {f : Estimator → Estimator} (hf : evaluated x seed k.est = f k.est) (hband : (f k.est).band = k.est.band) :
    Evaluated s c x seed k (s.updEst c f) where
  stations := by
    rw [updEst_eq_remeasure]
    refine congrArg State.stations (updContainer_congr fun k' hk' => ?_)
    obtain rfl : k = k' := Option.some.inj (hk.symm.trans hk')
    have hflags : evaluatedFlags x seed k.est k.flags = k.flags := by
      unfold evaluatedFlags
      rw [hf, hband]
      cases k.est.band with
      | none => exact passed_nil _
      | some b => dsimp only; rw [reported_self, passed_nil]
    simp only [remeasure, hf, hflags]
  frame := rfl
  entry new hnew := by
    rw [hf, hband] at hnew
    rw [hnew, bandListing_self]; rfl
  others _ _ := rfl
  report new hnew := by
    rw [hf, hband] at hnew
    rw [hnew, State.reportBand, bandListing_self, reported_self]; rfl
  unchanged _ := ⟨rfl, rfl⟩

/-- A change of the band, as the evaluation of a sample makes it. -/
theorem Evaluated.of_changeBand {s : State} {c : Nat} {x : Setup} {seed : Bool} {k : Container} (hk : s.container? c = some k) {new : Band}
    (hnew : evaluated x seed k.est = banded x new k.est) (hne : k.est.band ≠ some new) :
    Evaluated s c x seed k (s.changeBand c x k.est.band new) := by
  have hband : (evaluated x seed k.est).band = some new := by rw [hnew]; rfl
  have hlevel : State.levelOf { s.updContainer c (rebanded x k.est.band new) with
      report := reportCrossings s c (movesUp k.est.band new) k.est.level (x.reported k.est.band new) s.report } c = k.est.level :=
    levelOf_eq (k := rebanded x k.est.band new k) (container?_updContainer_self hk _)
  have hlisted := listed_bandRequests hlevel hne (banded x new k.est).forecast
  rw [← changeBand_eq hk] at hlisted
  have hmoved : s.updContainer c (rebanded x k.est.band new) = s.updContainer c (remeasure (evaluated x seed) (evaluatedFlags x seed)) := by
    refine updContainer_congr fun k' hk' => ?_
    obtain rfl : k = k' := Option.some.inj (hk.symm.trans hk')
    simp only [rebanded, remeasure, evaluatedFlags, hnew]
    rfl
  have hstations : (s.changeBand c x k.est.band new).stations = (s.updContainer c (rebanded x k.est.band new)).stations :=
    hlisted.stations
  refine ⟨hstations.trans (congrArg State.stations hmoved), ?_, ?_, hlisted.others, ?_, fun h => absurd (h.symm.trans hband) hne⟩
  · exact congrArg (fun u : State => { u with stations := s.stations, collection := s.collection, report := s.report }) hlisted.frame
  all_goals
    intro new' hnew'
    obtain rfl : new = new' := Option.some.inj (hband.symm.trans hnew')
    rw [hnew]
  · exact hlisted.entry
  · exact hlisted.report

/-- The band evaluation of a sample, by the branches of R53 and R54. -/
theorem evaluated_evaluateBand {s : State} {c : Nat} {k : Container} (hk : s.container? c = some k) (x : Setup) (seed : Bool) :
    Evaluated s c x seed k (evaluateBand c x seed k.est s) := by
  cases seed with
  | true =>
    have hrecord : evaluated x true k.est = banded x (seedBand x k.est) k.est := rfl
    have hstate : evaluateBand c x true k.est s =
        if k.est.band = some (seedBand x k.est) then
          s.updEst c (Estimator.forecastNow x ∘ fun e => { e with candidate := none, count := 0 })
        else s.changeBand c x k.est.band (seedBand x k.est) := by
      rw [← updEst_updEst]; rfl
    rw [hstate]
    split
    · next hband =>
      refine .of_same hk ?_ rfl
      rw [hrecord]
      unfold banded entered
      rw [← hband]; rfl
    · next hband => exact .of_changeBand hk hrecord hband
  | false =>
    rcases hband : k.est.band with _ | b
    · have hsame := Evaluated.of_same (x := x) (seed := false) hk (f := fun e => e) (by simp [evaluated, hband]) rfl
      have hstate : evaluateBand c x false k.est s = s := by simp [evaluateBand, State.evaluateSample, hband]
      rw [hstate]
      rwa [State.updEst, updContainer_id] at hsame
    · have hstate : evaluateBand c x false k.est s =
          if x.candidate b k.est.level = b then s.updEst c fun e => { e with candidate := none, count := 0 }
          else if x.confirmations ≤ agreeing k.est (x.candidate b k.est.level) then
            s.changeBand c x k.est.band (x.candidate b k.est.level)
          else
            s.updEst c fun e =>
              { e with candidate := some (x.candidate b k.est.level), count := agreeing k.est (x.candidate b k.est.level) } := by
        simp only [evaluateBand, Bool.false_eq_true, if_false, State.evaluateSample, hband]
        rfl
      rw [hstate]
      split
      · next hcand => exact .of_same hk (by simp [evaluated, hband, hcand]) rfl
      · next hcand =>
        split
        · next hcount =>
          refine .of_changeBand hk (by simp [evaluated, hband, hcand, hcount]) ?_
          rw [hband]
          exact fun h => hcand (Option.some.inj h).symm
        · next hcount => exact .of_same hk (by simp [evaluated, hband, hcand, hcount]) rfl

end Sys2Proof.Machine.FillEstimation
end

section
namespace Sys2Proof.Machine.FillEstimation

/-! ### The first steps of an accepted sample (R37, R38, R41, R43) -/

/-- The estimator record once an accepted sample has ended its measurement and made the sensor GOOD (R37). -/
def sensed (e : Estimator) : Estimator := { e with flight := none, rejected := 0, sensor := .good }

/-- The estimator record of an accepted sample before the band evaluation. -/
def absorbed (x : Setup) (tag : Option VerifyTag) (d : Nat) (e : Estimator) : Estimator := (sensed e).absorb x tag (x.levelAt d)

/-- The flags after the overfill test (R38). -/
def overfilled (x : Setup) (d : Nat) (f : ContainerFlags) : ContainerFlags := { f with overfill := f.overfill || decide (d < x.fullDistance) }

/-- The state in which an accepted sample makes its band evaluation, `e` being the record before the sample. -/
def sampleStart (c : Nat) (x : Setup) (e : Estimator) (d : Nat) (tag : Option VerifyTag) (s : State) : State :=
  (((s.endFlight c).sensorGood c e.sensor (e.absorb x tag (x.levelAt d)).level).overfillTest c x d).updEst c
    (Estimator.absorb x tag (x.levelAt d))

/-- The report queue after the sensor test of a sample that leaves the level at `l` (R37). -/
def reportRecovered (s : State) (c : Nat) (was : Sensor) (l : Nat) : Report :=
  if was = .faulty then s.reportAt c .sensorRecovered (.sensorRecovered l) s.report else s.report

/-- The report queue after the sensor and the overfill test of a sample when no action is bound to OVERFILL. -/
def reportStart (s : State) (c : Nat) (x : Setup) (k : Container) (d l : Nat) : Report :=
  if d < x.fullDistance ∧ k.flags.overfill = false then s.reportAt c .overfill (.overfill d) (reportRecovered s c k.est.sensor l)
  else reportRecovered s c k.est.sensor l

theorem sensorGood_eq (s : State) (c : Nat) (was : Sensor) (l : Nat) :
    s.sensorGood c was l =
      { s.updEst c fun e => { e with rejected := 0, sensor := .good } with
        report := reportRecovered s c was l } := by
  unfold State.sensorGood reportRecovered
  dsimp only
  split <;> rfl

/-- An event of a class with no action bound is posted at once (R167). -/
theorem raiseAt_noAction {s : State} {cls : EventClass} (h : (s.bindingOf cls).action = .none) (c : Nat) (body : EventBody) :
    s.raiseAt cls c body = { s with report := s.reportAt c cls body s.report } := by
  unfold State.raiseAt State.raise
  rw [h]
  rfl

theorem overfilled_set {x : Setup} {d : Nat} (hd : d < x.fullDistance) (f : ContainerFlags) : overfilled x d f = { f with overfill := true } := by
  simp [overfilled, hd]

theorem overfilled_kept {x : Setup} {d : Nat} {f : ContainerFlags} (h : ¬(d < x.fullDistance ∧ f.overfill = false)) :
    overfilled x d f = f := by
  by_cases hd : d < x.fullDistance
  · have hset : f.overfill = true := by simpa [hd] using h
    rw [overfilled_set hd, ← hset]
  · simp [overfilled, hd]

/-- The overfill test sets the flag and, when it was clear, raises OVERFILL. -/
theorem overfillTest_eq {s : State} {c : Nat} {k : Container} (hk : s.container? c = some k) (x : Setup) (d : Nat) :
    s.overfillTest c x d =
      if d < x.fullDistance ∧ k.flags.overfill = false then (s.updFlags c (overfilled x d)).raiseAt .overfill c (.overfill d)
      else s.updFlags c (overfilled x d) := by
  unfold State.overfillTest
  rw [hk]
  dsimp only
  split
  · next h =>
    have hset : (overfilled x d) = fun f => { f with overfill := true } := funext (overfilled_set h.1)
    rw [hset]
  · next h =>
    refine (updContainer_eq_self fun k' hk' => ?_).symm
    obtain rfl : k = k' := Option.some.inj (hk.symm.trans hk')
    rw [overfilled_kept h]

section
variable {s : State} {c : Nat} {k : Container} (hk : s.container? c = some k) (x : Setup) (d : Nat) (tag : Option VerifyTag)
include hk

/-- The sensor and the overfill test of a sample, before anything is bound to OVERFILL. -/
theorem overfillTest_sensorGood (l : Nat) :
    ((s.endFlight c).sensorGood c k.est.sensor l).overfillTest c x d =
      if d < x.fullDistance ∧ k.flags.overfill = false then
        State.raiseAt .overfill c (.overfill d)
          { s.updContainer c (remeasure sensed fun _ => overfilled x d) with report := reportRecovered s c k.est.sensor l }
      else { s.updContainer c (remeasure sensed fun _ => overfilled x d) with report := reportRecovered s c k.est.sensor l } := by
  have hgood : ((s.endFlight c).sensorGood c k.est.sensor l).container? c = some { k with est := sensed k.est } := by
    rw [sensorGood_eq]
    exact container?_updContainer_self (container?_updContainer_self hk _) _
  have hflags : ((s.endFlight c).updEst c fun e => { e with rejected := 0, sensor := .good }).updFlags c (overfilled x d) =
      s.updContainer c (remeasure sensed fun _ => overfilled x d) :=
    (updContainer_updContainer _ c _ _).trans (updContainer_updContainer s c _ _)
  rw [overfillTest_eq hgood, sensorGood_eq, ← hflags]
  rfl

/-- Whatever is bound to OVERFILL, the gauges at the band evaluation are those of the sample's own steps. -/
theorem gauges_sampleStart :
    gauges (sampleStart c x k.est d tag s) = gauges (s.updContainer c (remeasure (absorbed x tag d) fun _ => overfilled x d)) := by
  have htest : ∀ l, gauges (((s.endFlight c).sensorGood c k.est.sensor l).overfillTest c x d) =
      gauges (s.updContainer c (remeasure sensed fun _ => overfilled x d)) := fun l => by
    rw [overfillTest_sensorGood hk]
    split
    · rw [gauges_raiseAt]; rfl
    · rfl
  unfold sampleStart
  rw [updEst_eq_remeasure, gauges_remeasure_congr (htest _), updContainer_remeasure_remeasure]
  rfl

/-- With no action bound to OVERFILL, the state at the band evaluation. -/
theorem sampleStart_eq (h : (s.bindingOf .overfill).action = .none) :
    sampleStart c x k.est d tag s =
      { s.updContainer c (remeasure (absorbed x tag d) fun _ => overfilled x d) with
        report := reportStart s c x k d (k.est.absorb x tag (x.levelAt d)).level } := by
  have habsorbed : (s.updContainer c (remeasure sensed fun _ => overfilled x d)).updEst c (Estimator.absorb x tag (x.levelAt d)) =
      s.updContainer c (remeasure (absorbed x tag d) fun _ => overfilled x d) :=
    updContainer_updContainer s c _ _
  unfold sampleStart reportStart
  rw [overfillTest_sensorGood hk, raiseAt_noAction (s := { s.updContainer c _ with report := _ }) h, ← habsorbed]
  split <;> rfl

end

end Sys2Proof.Machine.FillEstimation
end

section
namespace Sys2Proof.Machine.FillEstimation

/-! ### The record after an accepted sample -/

/-- The estimator record after the last steps of an accepted sample: what a verification seed resets, and the sample itself (R44, R48). -/
def concluded (tag : Option VerifyTag) (sample : Sample) (e : Estimator) : Estimator :=
  { if tag = some { seedMarker := true } then e.verificationSeed else e with last := some sample }

/-- The estimator record after an accepted sample. -/
def sampled (x : Setup) (tag : Option VerifyTag) (seed : Bool) (d : Nat) (sample : Sample) (e : Estimator) : Estimator :=
  concluded tag sample (evaluated x seed (absorbed x tag d e))

/-- The flags after an accepted sample. -/
def sampledFlags (x : Setup) (tag : Option VerifyTag) (seed : Bool) (d : Nat) (e : Estimator) (f : ContainerFlags) : ContainerFlags :=
  evaluatedFlags x seed (absorbed x tag d e) (overfilled x d f)

/-- The band evaluation of a sample touches the band, the filter and H alone. -/
theorem evaluated_frame (x : Setup) (seed : Bool) (e : Estimator) :
    { evaluated x seed e with band := e.band, candidate := e.candidate, count := e.count, forecast := e.forecast } = e := by
  unfold evaluated
  split
  · rfl
  · split
    · rfl
    · split
      · rfl
      · split <;> rfl

section
variable (x : Setup) (tag : Option VerifyTag) (seed : Bool) (d : Nat) (sample : Sample) (e : Estimator)

@[simp] theorem evaluated_smoothed : (evaluated x seed e).smoothed = e.smoothed := (congrArg Estimator.smoothed (evaluated_frame x seed e) :)
@[simp] theorem evaluated_credit : (evaluated x seed e).credit = e.credit := (congrArg Estimator.credit (evaluated_frame x seed e) :)
@[simp] theorem evaluated_credited : (evaluated x seed e).credited = e.credited := (congrArg Estimator.credited (evaluated_frame x seed e) :)
@[simp] theorem evaluated_level : (evaluated x seed e).level = e.level := (congrArg Estimator.level (evaluated_frame x seed e) :)
@[simp] theorem evaluated_rate : (evaluated x seed e).rate = e.rate := (congrArg Estimator.rate (evaluated_frame x seed e) :)
@[simp] theorem evaluated_baseline : (evaluated x seed e).baseline = e.baseline := (congrArg Estimator.baseline (evaluated_frame x seed e) :)
@[simp] theorem evaluated_sensor : (evaluated x seed e).sensor = e.sensor := (congrArg Estimator.sensor (evaluated_frame x seed e) :)
@[simp] theorem evaluated_rejected : (evaluated x seed e).rejected = e.rejected := (congrArg Estimator.rejected (evaluated_frame x seed e) :)
@[simp] theorem evaluated_flight : (evaluated x seed e).flight = e.flight := (congrArg Estimator.flight (evaluated_frame x seed e) :)
@[simp] theorem evaluated_periodic : (evaluated x seed e).periodic = e.periodic := (congrArg Estimator.periodic (evaluated_frame x seed e) :)
@[simp] theorem evaluated_postDeposit : (evaluated x seed e).postDeposit = e.postDeposit :=
  (congrArg Estimator.postDeposit (evaluated_frame x seed e) :)
@[simp] theorem evaluated_deposits : (evaluated x seed e).deposits = e.deposits := (congrArg Estimator.deposits (evaluated_frame x seed e) :)

/-- What the last steps of a sample set. -/
theorem concluded_eq : concluded tag sample e =
    { e with
      deposits := if tag = some { seedMarker := true } then 0 else e.deposits
      baseline := if tag = some { seedMarker := true } then some e.credited else e.baseline
      last := some sample } := by
  unfold concluded
  split <;> rfl

/-- S once a sample has moved or seeded it (R41, R44). -/
theorem absorbed_smoothed : (absorbed x tag d e).smoothed =
    some (match e.smoothed with
      | none => 16 * x.levelAt d
      | some v => if e.seeds tag then 16 * x.levelAt d else smoothTo x.alpha (x.levelAt d) v) := rfl

theorem absorbed_band : (absorbed x tag d e).band = e.band := rfl

theorem absorbed_credited : (absorbed x tag d e).credited = min 16000 ((absorbed x tag d e).smoothed.getD 0) := rfl

theorem absorbed_level : (absorbed x tag d e).level = ((absorbed x tag d e).credited + 8) / 16 := rfl

@[simp] theorem sampled_smoothed : (sampled x tag seed d sample e).smoothed = (absorbed x tag d e).smoothed := by
  rw [sampled, concluded_eq, evaluated_smoothed]

@[simp] theorem sampled_credit : (sampled x tag seed d sample e).credit = (absorbed x tag d e).credit := by
  rw [sampled, concluded_eq, evaluated_credit]

@[simp] theorem sampled_credited : (sampled x tag seed d sample e).credited = (absorbed x tag d e).credited := by
  rw [sampled, concluded_eq, evaluated_credited]

@[simp] theorem sampled_level : (sampled x tag seed d sample e).level = (absorbed x tag d e).level := by
  rw [sampled, concluded_eq, evaluated_level]

@[simp] theorem sampled_rate : (sampled x tag seed d sample e).rate = (absorbed x tag d e).rate := by
  rw [sampled, concluded_eq, evaluated_rate]

@[simp] theorem sampled_sensor : (sampled x tag seed d sample e).sensor = (absorbed x tag d e).sensor := by
  rw [sampled, concluded_eq, evaluated_sensor]

@[simp] theorem sampled_rejected : (sampled x tag seed d sample e).rejected = (absorbed x tag d e).rejected := by
  rw [sampled, concluded_eq, evaluated_rejected]

@[simp] theorem sampled_flight : (sampled x tag seed d sample e).flight = (absorbed x tag d e).flight := by
  rw [sampled, concluded_eq, evaluated_flight]

@[simp] theorem sampled_periodic : (sampled x tag seed d sample e).periodic = (absorbed x tag d e).periodic := by
  rw [sampled, concluded_eq, evaluated_periodic]

@[simp] theorem sampled_postDeposit : (sampled x tag seed d sample e).postDeposit = (absorbed x tag d e).postDeposit := by
  rw [sampled, concluded_eq, evaluated_postDeposit]

@[simp] theorem sampled_band : (sampled x tag seed d sample e).band = (evaluated x seed (absorbed x tag d e)).band := by
  rw [sampled, concluded_eq]

@[simp] theorem sampled_candidate : (sampled x tag seed d sample e).candidate = (evaluated x seed (absorbed x tag d e)).candidate := by
  rw [sampled, concluded_eq]

@[simp] theorem sampled_count : (sampled x tag seed d sample e).count = (evaluated x seed (absorbed x tag d e)).count := by
  rw [sampled, concluded_eq]

@[simp] theorem sampled_forecast : (sampled x tag seed d sample e).forecast = (evaluated x seed (absorbed x tag d e)).forecast := by
  rw [sampled, concluded_eq]

@[simp] theorem sampled_deposits :
    (sampled x tag seed d sample e).deposits = if tag = some { seedMarker := true } then 0 else e.deposits := by
  rw [sampled, concluded_eq, evaluated_deposits]; rfl

@[simp] theorem sampled_baseline : (sampled x tag seed d sample e).baseline =
    if tag = some { seedMarker := true } then some (absorbed x tag d e).credited else e.baseline := by
  rw [sampled, concluded_eq, evaluated_baseline, evaluated_credited]; rfl

@[simp] theorem sampled_last : (sampled x tag seed d sample e).last = some sample := by
  rw [sampled, concluded_eq]

end

/-! ### What an accepted sample does to the state -/

theorem clock_of_rigid {s t : State} (h : t.rigid = s.rigid) : t.clock = s.clock := congrArg (fun r => r.2.1) h

@[simp] theorem rigid_evaluateBand (s : State) (c : Nat) (x : Setup) (seed : Bool) (e : Estimator) :
    (evaluateBand c x seed e s).rigid = s.rigid := by
  unfold evaluateBand
  split <;> simp

@[simp] theorem rigid_sampleStart (s : State) (c : Nat) (x : Setup) (e : Estimator) (d : Nat) (tag : Option VerifyTag) :
    (sampleStart c x e d tag s).rigid = s.rigid := by
  simp [sampleStart]

/-- The band evaluation reads the band, its filter and L. -/
theorem evaluateBand_sensed (s : State) (c : Nat) (x : Setup) (seed : Bool) (e : Estimator) (tag : Option VerifyTag) (d : Nat) :
    evaluateBand c x seed (e.absorb x tag (x.levelAt d)) s = evaluateBand c x seed (absorbed x tag d e) s := rfl

/-- The sample that is recorded: distance, quality, level and the clock's value (R48). -/
def sampleNow (s : State) (x : Setup) (d q : Nat) : Sample :=
  { distance := d, quality := q, level := x.levelAt d, day := s.clock.day, second := s.clock.second }

/-- The steps of an accepted sample (R48). -/
theorem acceptSample_eq (s : State) (c : Nat) (x : Setup) (e : Estimator) (d q : Nat) (tag : Option VerifyTag) :
    (s.endFlight c).acceptSample c x e d q tag =
      (evaluateBand c x (e.seeds tag) (absorbed x tag d e) (sampleStart c x e d tag s)).updEst c (concluded tag (sampleNow s x d q)) := by
  have hclock : (evaluateBand c x (e.seeds tag) (absorbed x tag d e) (sampleStart c x e d tag s)).clock = s.clock :=
    clock_of_rigid (by simp)
  unfold sampleNow
  rw [← hclock, ← evaluateBand_sensed]
  unfold State.acceptSample
  dsimp only
  by_cases htag : tag = some { seedMarker := true }
  · have hconcluded : ∀ sample, concluded tag sample = (fun e => { e with last := some sample }) ∘ Estimator.verificationSeed := fun sample => by
      funext e
      rw [concluded, if_pos htag]; rfl
    rw [if_pos htag, hconcluded, ← updEst_updEst]
    rfl
  · have hconcluded : ∀ sample, concluded tag sample = fun e => { e with last := some sample } := fun sample => by
      funext e
      rw [concluded, if_neg htag]
    rw [if_neg htag, hconcluded]
    rfl

section
variable {s : State} {c : Nat} {k : Container} (hk : s.container? c = some k) (x : Setup) (d q : Nat) (tag : Option VerifyTag)
include hk

/-- The container at the band evaluation of a sample. -/
theorem exists_sampleStart : ∃ k₃, (sampleStart c x k.est d tag s).container? c = some k₃ ∧ k₃.est = absorbed x tag d k.est := by
  obtain ⟨k₃, hk₃, hgauge⟩ := exists_container_of_gauges (gauges_sampleStart hk x d tag) (container?_updContainer_self hk _)
  exact ⟨k₃, hk₃, congrArg (fun g => g.2.2.1) hgauge⟩

/-- The gauges after an accepted sample, whatever is bound to OVERFILL. -/
theorem gauges_acceptSample :
    gauges ((s.endFlight c).acceptSample c x k.est d q tag) =
      gauges (s.updContainer c
        (remeasure (sampled x tag (k.est.seeds tag) d (sampleNow s x d q)) (sampledFlags x tag (k.est.seeds tag) d))) := by
  obtain ⟨k₃, hk₃, hest⟩ := exists_sampleStart hk x d tag
  have hevaluated := evaluated_evaluateBand hk₃ x (k.est.seeds tag)
  have hstart := gauges_sampleStart hk x d tag
  rw [acceptSample_eq, ← hest, updEst_eq_remeasure, gauges_remeasure_congr (gauges_congr hevaluated.stations),
    updContainer_remeasure_remeasure, gauges_remeasure_congr hstart, updContainer_remeasure_remeasure]
  rfl

end

end Sys2Proof.Machine.FillEstimation
end

section
namespace Sys2Proof.Machine.FillEstimation

/-! ### What the band evaluation of a sample gives (R53, R54) -/

theorem evaluated_seed (x : Setup) (e : Estimator) : evaluated x true e = banded x (seedBand x e) e := rfl

theorem evaluated_agreed {x : Setup} {e : Estimator} {b : Band} (hb : e.band = some b) (h : x.candidate b e.level = b) :
    evaluated x false e = { e with candidate := none, count := 0 } := by
  simp [evaluated, hb, h]

theorem evaluated_counting {x : Setup} {e : Estimator} {b : Band} (hb : e.band = some b) (h : x.candidate b e.level ≠ b)
    (hn : agreeing e (x.candidate b e.level) < x.confirmations) :
    evaluated x false e =
      { e with candidate := some (x.candidate b e.level), count := agreeing e (x.candidate b e.level) } := by
  simp [evaluated, hb, h, Nat.not_le.2 hn]

theorem evaluated_moved {x : Setup} {e : Estimator} {b : Band} (hb : e.band = some b) (h : x.candidate b e.level ≠ b)
    (hn : x.confirmations ≤ agreeing e (x.candidate b e.level)) :
    evaluated x false e = banded x (x.candidate b e.level) e := by
  simp [evaluated, hb, h, hn]

/-- H is given anew at a seed and at a change of the band, and then only (R46). -/
theorem evaluated_forecast (x : Setup) (seed : Bool) (e : Estimator) :
    (evaluated x seed e).forecast =
      if seed = true ∨ (evaluated x seed e).band ≠ e.band then hoursToFull e.credited e.rate x.tFull else e.forecast := by
  cases seed with
  | true => rw [if_pos (.inl rfl)]; rfl
  | false =>
    rcases hb : e.band with _ | b
    · simp [evaluated, hb]
    · by_cases hcand : x.candidate b e.level = b
      · simp [evaluated_agreed hb hcand, hb]
      · rcases Nat.lt_or_ge (agreeing e (x.candidate b e.level)) x.confirmations with hn | hn
        · simp [evaluated_counting hb hcand hn, hb]
        · simp [evaluated_moved hb hcand hn, banded, entered, Estimator.forecastNow, hcand]

/-! ### How an echo result is taken (R35) -/

theorem liftInProgress_eq_false {s : State} {c : Nat} (h : s.phaseOf c = none ∨ s.phaseOf c = some .pending) : s.liftInProgress c = false := by
  rcases h with h | h <;> simp [State.liftInProgress, h, Phase.holdsCrane]

theorem liftInProgress_eq_true {s : State} {c : Nat} {ph : Phase} (h : s.phaseOf c = some ph) (hne : ph ≠ .pending) :
    s.liftInProgress c = true := by
  cases ph <;> simp_all [State.liftInProgress, Phase.holdsCrane]

section
variable {s : State} {c : Nat} {k : Container} {fl : Flight} {x : Setup} (hk : s.container? c = some k) (hfl : k.est.flight = some fl)
  (hx : k.latched = some x)
include hk hfl hx

/-- In CONFIGURE, and untagged while a lift is in progress, an echo only ends its measurement. -/
theorem takeEcho_ended (echo : Echo) (h : s.mode = .configure ∨ (s.liftInProgress c = true ∧ fl.tag = none)) :
    s.takeEcho c echo = (s.endFlight c, none) := by
  unfold State.takeEcho
  rw [hk]
  dsimp only
  rw [hfl, hx]
  exact if_pos h

theorem takeEcho_rejected {echo : Echo} (h : ¬(s.mode = .configure ∨ (s.liftInProgress c = true ∧ fl.tag = none)))
    (hecho : echo.rejectedBy x = true) :
    s.takeEcho c echo = ((s.endFlight c).rejectSample c, answerFor fl.tag .failed) := by
  unfold State.takeEcho
  rw [hk]
  dsimp only
  rw [hfl, hx]
  refine (if_neg h).trans ?_
  cases echo with
  | noEcho => rfl
  | heard d q => exact if_pos hecho

theorem takeEcho_accepted {d q : Nat} (h : ¬(s.mode = .configure ∨ (s.liftInProgress c = true ∧ fl.tag = none)))
    (hecho : (Echo.heard d q).rejectedBy x = false) :
    s.takeEcho c (.heard d q) =
      ((s.endFlight c).acceptSample c x k.est d q fl.tag, answerFor fl.tag (acceptedAnswer x k.est d fl.tag)) := by
  unfold State.takeEcho
  rw [hk]
  dsimp only
  rw [hfl, hx]
  exact (if_neg h).trans (if_neg (by simp [hecho]))

end

/-- An echo with no measurement in flight is discarded. -/
theorem takeEcho_noFlight {s : State} {c : Nat} {k : Container} (hk : s.container? c = some k) (hfl : k.est.flight = none) (echo : Echo) :
    s.takeEcho c echo = (s, none) := by
  unfold State.takeEcho
  rw [hk]
  dsimp only
  rw [hfl]

/-- The emptying controller takes an answer when there is one. -/
theorem answered_answerFor (s : State) (c : Nat) (tag : Option VerifyTag) (a : Answer) :
    s.answered c (answerFor tag a) = if tag.isSome then s.takeAnswer c a else s := by
  cases tag <;> rfl

/-! ### An accepted sample with no action bound to OVERFILL -/

section
variable {s : State} {c : Nat} {k : Container} (hk : s.container? c = some k) (x : Setup) (d q : Nat) (tag : Option VerifyTag)
include hk

/-- With no action bound to OVERFILL, an accepted sample changes its container, its entry and the report queue alone. -/
theorem acceptSample_noAction (h : (s.bindingOf .overfill).action = .none) {u : State} {e : Estimator}
    (hu : u = (s.endFlight c).acceptSample c x k.est d q tag) (he : e = evaluated x (k.est.seeds tag) (absorbed x tag d k.est)) :
    OnlyContainer c s u ∧ { u with stations := s.stations, collection := s.collection, report := s.report } = s ∧
    (∀ new, e.band = some new →
      u.entry? c = (bandListing k.est.band new (s.freshEntry c e.forecast) (s.entry? c)).1 ∧
      (∀ n, n ≠ c → u.entry? n = s.entry? n) ∧
      u.report = s.reportBand c x k.est.band new e.level e.forecast (reportStart s c x k d e.level)) ∧
    (e.band = k.est.band → u.collection = s.collection ∧ u.report = reportStart s c x k d e.level) := by
  obtain ⟨k₃, hk₃, hest⟩ := exists_sampleStart hk x d tag
  have hevaluated := evaluated_evaluateBand hk₃ x (k.est.seeds tag)
  have hlevel : e.level = (k.est.absorb x tag (x.levelAt d)).level := by rw [he, evaluated_level]; rfl
  rw [acceptSample_eq, ← hest] at hu
  rw [sampleStart_eq hk x d tag h, ← hlevel] at hevaluated hu
  generalize ht : evaluateBand c x (k.est.seeds tag) k₃.est _ = t at hevaluated hu
  obtain ⟨hstations, hframe, hentry, hothers, hreport, hunchanged⟩ := hevaluated
  have hkept : (absorbed x tag d k.est).level = e.level := by rw [he, evaluated_level]
  rw [hest, ← he] at hentry hunchanged
  rw [hest, ← he, hkept] at hreport
  subst hu
  refine ⟨?_, ?_, fun new hnew => ⟨hentry new hnew, hothers, hreport new hnew⟩, hunchanged⟩
  · have hmoved : OnlyContainer c s ((s.updContainer c (remeasure (absorbed x tag d) fun _ => overfilled x d)).updContainer c
        (remeasure (evaluated x (k.est.seeds tag)) (evaluatedFlags x (k.est.seeds tag)))) :=
      (onlyContainer_updContainer s c _).trans (onlyContainer_updContainer _ c _)
    exact (hmoved.congr hstations).trans (onlyContainer_updContainer t c _)
  · exact congrArg (fun v : State => { v with stations := s.stations, collection := s.collection, report := s.report }) hframe

end

end Sys2Proof.Machine.FillEstimation
end

section
namespace Sys2Proof.Machine.FillEstimation

/-! ### O47: an accepted sample -/

section
variable {s : State} {c : Nat} {k : Container} (hk : s.container? c = some k) (x : Setup) (d q : Nat) (tag : Option VerifyTag)
include hk

/-- The container after an accepted sample. -/
theorem exists_acceptSample : ∃ k', ((s.endFlight c).acceptSample c x k.est d q tag).container? c = some k' ∧
    k'.est = sampled x tag (k.est.seeds tag) d (sampleNow s x d q) k.est ∧
    k'.flags = sampledFlags x tag (k.est.seeds tag) d k.est k.flags := by
  obtain ⟨k', hk', hgauge⟩ := exists_container_of_gauges (gauges_acceptSample hk x d q tag) (container?_updContainer_self hk _)
  exact ⟨k', hk', congrArg (fun g => g.2.2.1) hgauge, congrArg (fun g => g.2.2.2.1) hgauge⟩

/-- An accepted sample keeps the estimates of the other containers. -/
theorem acceptSample_others {e : Nat} (he : e ≠ c) :
    (((s.endFlight c).acceptSample c x k.est d q tag).container? e).map Container.est = (s.container? e).map Container.est := by
  have hgauge := congrFun (gauges_acceptSample hk x d q tag) e
  rw [gauges_updContainer_apply, if_neg he] at hgauge
  simpa [gauges, Function.comp_def, gauge] using congrArg (Option.map fun g => g.2.2.1) hgauge

end

/-- Settles O47, from the record and the flags of `exists_acceptSample` and the frame of `acceptSample_noAction`. -/
theorem sampleTaken : Obligations.SampleTaken := by
  unfold Obligations.SampleTaken
  intro s c d q k x fl hk hx hfl hmode hphase hq hd hrange seed verifySeed hverify hseed
  have hseeds : k.est.seeds fl.tag = seed := by
    rw [hseed, hverify, Estimator.seeds, beq_eq_decide]
  have hgate : ¬(s.mode = .configure ∨ (s.liftInProgress c = true ∧ fl.tag = none)) := by
    rintro (h | ⟨hlift, htag⟩)
    · exact hmode h
    · rcases hphase with h | h | h
      · simp [liftInProgress_eq_false (.inl h)] at hlift
      · simp [liftInProgress_eq_false (.inr h)] at hlift
      · simp [htag] at h
  have hecho : (Echo.heard d q).rejectedBy x = false := by simp [Echo.rejectedBy]; omega
  have hcases : (fl.tag = some { seedMarker := true }) = (verifySeed = true) := by rw [hverify, decide_eq_true_eq]
  obtain ⟨k', hk', hest, hflags⟩ := exists_acceptSample hk x d q fl.tag
  have hquiet := fun h => acceptSample_noAction hk x d q fl.tag h rfl rfl
  have hsmoothed := absorbed_smoothed x fl.tag d k.est
  rw [hseeds] at hest hflags hquiet hsmoothed
  have hforecast := evaluated_forecast x seed (absorbed x fl.tag d k.est)
  have hlevel : k'.est.level = (absorbed x fl.tag d k.est).level := by rw [hest, sampled_level]
  refine ⟨_, k', hk', ?_, ?_⟩
  · unfold State.handEcho
    dsimp only
    rw [takeEcho_accepted hk hfl hx hgate hecho, answered_answerFor, acceptedAnswer, hseeds, hlevel]
    rfl
  · rw [hflags, hest]
    simp only [sampled_flight, sampled_rejected, sampled_sensor, sampled_credit, sampled_smoothed, sampled_credited, sampled_level, sampled_rate,
      sampled_baseline, sampled_deposits, sampled_periodic, sampled_postDeposit, sampled_last, sampled_band, sampled_candidate, sampled_count,
      sampled_forecast, hcases]
    refine ⟨rfl, rfl, rfl, rfl, hsmoothed, rfl, rfl, rfl, trivial, trivial, rfl, rfl, rfl, ?_, ?_, rfl, hforecast,
      fun e => acceptSample_others hk x d q fl.tag, ?_⟩
    · rintro b n rfl hb rfl
      rw [← absorbed_band x fl.tag d] at hb
      refine ⟨fun h => ?_, fun h hn => ?_, fun h hn => ?_⟩
      · rw [evaluated_agreed hb h]
        exact ⟨hb, rfl, rfl⟩
      · rw [evaluated_counting hb h hn]
        exact ⟨hb, rfl, rfl⟩
      · rw [evaluated_moved hb h hn]
        exact ⟨rfl, rfl, rfl⟩
    · rintro rfl
      rw [evaluated_seed]
      refine ⟨rfl, rfl, rfl, fun b hb => ?_, fun hb m hm => ?_⟩
      · rw [← absorbed_band x fl.tag d] at hb
        exact congrArg some (by rw [seedBand, hb])
      · rw [← absorbed_band x fl.tag d] at hb
        rw [highest_unique hm (highest_bandAt_zero x _)]
        exact congrArg (fun b => some (Band.number b)) (by rw [seedBand, hb])
    · intro h
      obtain ⟨honly, hframe, hlisted, hsame⟩ := hquiet h
      rw [evaluated_level] at hlisted hsame
      exact ⟨honly, hframe, hlisted, hsame⟩

end Sys2Proof.Machine.FillEstimation
end

section
namespace Sys2Proof.Machine.FillEstimation

/-! ### A rejected sample (R36) -/

/-- The container of a rejected sample that brings the rejected count to `n` and leaves the sensor as it was. -/
def rejectedAt (n : Nat) : Container → Container := fun k => { k with est := { k.est with flight := none, rejected := n } }

/-- The container of a rejected sample that makes the sensor FAULTY. -/
def faultyAt (n : Nat) : Container → Container := fun k =>
  { k with
    est := { k.est with flight := none, rejected := n, sensor := .faulty }
    flags := { k.flags with sensorFault := true } }

/-- A measurement that ends in a rejected sample: the count, and from 4 on the sensor FAULTY with SENSOR_FAULT, unless it is FAULTY already. -/
theorem rejectSample_endFlight {s : State} {c n : Nat} {k : Container} (hk : s.container? c = some k) (hn : n = min 255 (k.est.rejected + 1)) :
    (s.endFlight c).rejectSample c =
      if 4 ≤ n ∧ k.est.sensor ≠ .faulty then (s.updContainer c (faultyAt n)).raiseAt .sensorFault c (.sensorFault n)
      else s.updContainer c (rejectedAt n) := by
  have hended : (s.endFlight c).container? c = some { k with est := { k.est with flight := none } } := container?_updContainer_self hk _
  have hrejected : (s.endFlight c).updEst c (fun e => { e with rejected := n }) = s.updContainer c (rejectedAt n) :=
    updContainer_updContainer s c _ _
  have hfaulty : ((s.updContainer c (rejectedAt n)).updEst c fun e => { e with sensor := .faulty }).updFlags c
      (fun f => { f with sensorFault := true }) = s.updContainer c (faultyAt n) :=
    (updContainer_updContainer _ c _ _).trans (updContainer_updContainer s c _ _)
  unfold State.rejectSample
  rw [hended]
  dsimp only
  rw [← hn, hrejected, hfaulty]

/-! ### The echo timeout (R34) -/

section
variable {s : State} {c : Nat} {k : Container} {fl : Flight} (hk : s.container? c = some k)
include hk

theorem echoTimeout_noFlight (hfl : k.est.flight = none) : s.echoTimeout c = s := by
  have : s.takeEchoTimeout c = (s, none) := by
    unfold State.takeEchoTimeout
    rw [hk]
    dsimp only
    rw [hfl]
  unfold State.echoTimeout
  rw [this]; rfl

variable (hfl : k.est.flight = some fl)
include hfl

theorem echoTimeout_configure (h : s.mode = .configure) : s.echoTimeout c = s.endFlight c := by
  have : s.takeEchoTimeout c = (s.endFlight c, none) := by
    unfold State.takeEchoTimeout
    rw [hk]
    dsimp only
    rw [hfl]
    exact if_pos h
  unfold State.echoTimeout
  rw [this]; rfl

/-- Outside CONFIGURE the echo timeout is a rejected sample, answered failed when the measurement is tagged (R33, R34). -/
theorem echoTimeout_rejected (h : s.mode ≠ .configure) :
    s.echoTimeout c = if fl.tag.isSome then ((s.endFlight c).rejectSample c).takeAnswer c .failed else (s.endFlight c).rejectSample c := by
  have : s.takeEchoTimeout c = ((s.endFlight c).rejectSample c, answerFor fl.tag .failed) := by
    unfold State.takeEchoTimeout
    rw [hk]
    dsimp only
    rw [hfl]
    exact if_neg h
  unfold State.echoTimeout
  rw [this]
  exact answered_answerFor _ c fl.tag .failed

/-- The echo timeout of an untagged measurement. -/
theorem echoTimeout_untagged (h : s.mode ≠ .configure) (htag : fl.tag = none) : s.echoTimeout c = (s.endFlight c).rejectSample c := by
  rw [echoTimeout_rejected hk hfl h, if_neg (by simp [htag])]

variable {x : Setup} (hx : k.latched = some x)
include hx

/-- An echo that is a rejected sample is taken as the echo timeout is (R35). -/
theorem handEcho_rejected {echo : Echo} (h : s.mode ≠ .configure) (hlift : s.liftInProgress c = false ∨ fl.tag.isSome = true)
    (hecho : echo.rejectedBy x = true) : s.handEcho c (some echo) = s.echoTimeout c := by
  have hgate : ¬(s.mode = .configure ∨ (s.liftInProgress c = true ∧ fl.tag = none)) := by
    rintro (hmode | ⟨hprogress, htag⟩)
    · exact h hmode
    · simp [hprogress, htag] at hlift
  unfold State.handEcho
  dsimp only
  rw [takeEcho_rejected hk hfl hx hgate hecho, answered_answerFor, echoTimeout_rejected hk hfl h]

theorem handEcho_ended (echo : Echo) (h : s.mode = .configure ∨ (s.liftInProgress c = true ∧ fl.tag = none)) :
    s.handEcho c (some echo) = s.endFlight c := by
  unfold State.handEcho
  dsimp only
  rw [takeEcho_ended hk hfl hx echo h]
  rfl

end

theorem handEcho_noFlight {s : State} {c : Nat} {k : Container} (hk : s.container? c = some k) (hfl : k.est.flight = none) (echo : Echo) :
    s.handEcho c (some echo) = s := by
  unfold State.handEcho
  dsimp only
  rw [takeEcho_noFlight hk hfl]
  rfl

theorem exec_echoTimeout (s : State) (c : Nat) : exec (.echoTimeout c) s = .next (s.echoTimeout c) := rfl

/-- Settles O46, from `rejectSample_endFlight` and the ways in which a measurement ends. -/
theorem echoLost : Obligations.EchoLost := by
  unfold Obligations.EchoLost
  simp only [exec_echoTimeout, Host.Outcome.next.injEq]
  refine ⟨fun s c n k fl hk hfl htag hn => ?_, fun s c k fl hk hfl => ?_, fun s c k echo hk hfl => ?_⟩
  · have hreject := rejectSample_endFlight hk hn
    refine ⟨echoTimeout_configure hk hfl, fun hmode hgood => ?_, fun hmode h4 hsensor => ?_, fun hmode h4 hsensor hbound => ?_⟩
    · have hstate : s.echoTimeout c = s.updContainer c (rejectedAt n) := by
        rw [echoTimeout_untagged hk hfl hmode htag, hreject, if_neg]
        rintro ⟨h4, hsensor⟩
        exact hgood.elim (fun h => by omega) hsensor
      exact ⟨_, hstate, container?_updContainer_self hk _, onlyContainer_updContainer s c _, rfl⟩
    · rw [echoTimeout_untagged hk hfl hmode htag, hreject, if_pos ⟨h4, hsensor⟩]
      rfl
    · have hstate : s.echoTimeout c = _ := (echoTimeout_untagged hk hfl hmode htag).trans
        (hreject.trans ((if_pos ⟨h4, hsensor⟩).trans (raiseAt_noAction (s := s.updContainer c (faultyAt n)) hbound c _)))
      exact ⟨_, hstate, container?_updContainer_self hk _, rfl, (onlyContainer_updContainer s c (faultyAt n)).congr rfl, rfl⟩
  · refine ⟨fun htag hmode => ?_, echoTimeout_configure hk hfl, fun x echo hx => ⟨fun hmode hphase hecho => ?_, fun hended => ?_⟩⟩
    · have hended : (s.updEst c fun e => { e with flight := some { tag := none, timeout := fl.timeout } }).endFlight c = s.endFlight c :=
        updEst_updEst s c _ _
      refine ⟨_, echoTimeout_untagged (container?_updContainer_self hk _) rfl hmode rfl, ?_⟩
      rw [hended, echoTimeout_rejected hk hfl hmode, if_pos htag]
    · have hlift : s.liftInProgress c = false ∨ fl.tag.isSome = true :=
        (or_assoc.2 hphase).imp_left liftInProgress_eq_false
      refine (handEcho_rejected hk hfl hx hmode hlift ?_).symm
      rcases hecho with rfl | ⟨d, q, rfl, hbad⟩
      · rfl
      · simpa [Echo.rejectedBy] using hbad
    · refine handEcho_ended hk hfl hx echo (hended.imp_right ?_)
      rintro ⟨htag, ph, hph, hne⟩
      exact ⟨liftInProgress_eq_true hph hne, htag⟩
  · exact ⟨echoTimeout_noFlight hk hfl, handEcho_noFlight hk hfl echo⟩

end Sys2Proof.Machine.FillEstimation
end

section
namespace Sys2Proof.Machine.FillEstimation

/-! ### Numbers in the bytes of a frame (R185) -/

@[simp] theorem byteOf_toNat (n : Nat) : (byteOf n).toNat = n % 256 := BitVec.toNat_ofNat n 8

theorem byteAt_zero_cons (b : Byte) (ps : List Byte) : byteAt (b :: ps) 0 = b.toNat := by
  simp [byteAt, field, numberOf]

theorem byteAt_byteOf {c : Nat} (hc : c < 256) (ps : List Byte) : byteAt (byteOf c :: ps) 0 = c := by
  rw [byteAt_zero_cons, byteOf_toNat, Nat.mod_eq_of_lt hc]

/-! ### O44: MEASURE_NOW (R32) -/

theorem serviceModes_inMode {m : Mode} (hm : m ≠ .configure) (fits : List Byte → Bool) : (serviceModes fits).inMode m = true := by
  cases m with
  | configure => exact absurd rfl hm
  | operate => rfl
  | supervise => rfl

@[simp] theorem taken_phaseOf (s : State) (p : Port) (c : Nat) : (s.taken p).phaseOf c = s.phaseOf c := by
  unfold State.phaseOf; rw [taken_opOf]

@[simp] theorem taken_onlineAt (s : State) (p : Port) (c : Nat) : (s.taken p).onlineAt c = s.onlineAt c := by
  unfold State.onlineAt; rw [taken_station?]

@[simp] theorem taken_liftInProgress (s : State) (p : Port) (c : Nat) : (s.taken p).liftInProgress c = s.liftInProgress c := by
  unfold State.liftInProgress; rw [taken_phaseOf]

@[simp] theorem taken_requestResult (s : State) (p : Port) (c : Nat) (verify : Bool) :
    (s.taken p).requestResult c verify = s.requestResult c verify := by
  unfold State.requestResult; rw [taken_container?, taken_phaseOf, taken_mode, taken_onlineAt]

/-- A MEASURE_NOW for a container in use, outside CONFIGURE, is taken by the tests of R32. -/
theorem exec_measureNow {s : State} {p : Port} {c : Nat} {k : Container} (hp : Ready s p) (hmode : s.mode ≠ .configure) (hc : c < 64)
    (hk : s.container? c = some k) :
    exec (.measureNow p (request 35 [byteOf c])) s =
      .next (if s.liftInProgress c then s.answer p 35 .busy []
        else if s.onlineAt c = false then s.answer p 35 .offline []
        else ((s.taken p).requestMeasurement c none).reply p 35 .ok [Config.replyCode (s.requestResult c false).replyCode]) := by
  have hbyte : byteAt [byteOf c] 0 = c := byteAt_byteOf (by omega) []
  have hserved : s.takeRequest p 35 (request 35 [byteOf c]) (State.measureNow p [byteOf c]) = State.measureNow p [byteOf c] (s.taken p) :=
    takeRequest_ready _ hp (r := serviceModes (exactly 1)) rfl rfl (by cases p <;> rfl)
      (serviceModes_inMode hmode _) (by decide)
  refine congrArg Host.Outcome.next (hserved.trans ?_)
  unfold State.measureNow
  rw [onContainer_inUse (k := k) _ (by rw [hbyte]; exact hc) (by rw [hbyte, taken_container?]; exact hk), hbyte]
  rw [taken_liftInProgress, taken_onlineAt, taken_requestResult]
  rfl

/-- The gate of R31 for an untagged request outside CONFIGURE, at an ONLINE station and with no lift in progress. -/
theorem requestResult_gate {s : State} {c : Nat} {k : Container} (hk : s.container? c = some k) (hmode : s.mode ≠ .configure)
    (hlatched : k.latched.isSome = true) (hphase : s.phaseOf c = none ∨ s.phaseOf c = some .pending) (honline : s.onlineAt c = true) :
    s.requestResult c false =
      if k.est.flight.isSome then .foldedInFlight else if k.marker.isSome then .foldedInMarker else .passed := by
  have hopen : ¬(s.phaseOf c = some .unlatched ∨ s.phaseOf c = some .lifted ∨ (s.phaseOf c = some .returned ∧ false = false)) := by
    rcases hphase with h | h <;> simp [h]
  have hsetup : ¬(s.mode = .configure ∨ k.latched.isNone) := by
    rintro (h | h)
    · exact hmode h
    · simp [Option.isNone_iff_eq_none.1 h] at hlatched
  unfold State.requestResult
  rw [hk]
  dsimp only
  rw [if_neg hsetup, if_neg hopen, if_pos honline]

/-- An untagged request that is folded leaves the measurement in flight and the marker as they are. -/
theorem requestMeasurement_folded {s : State} {c : Nat}
    (h : s.requestResult c false = .foldedInFlight ∨ s.requestResult c false = .foldedInMarker) :
    s.requestMeasurement c none = s := by
  have hflight : (Option.map fun x : Flight => { x with tag := retag none x.tag }) = id := funext fun o => by cases o <;> rfl
  have hmarker : (Option.map fun m : Marker => { m with tag := retag none m.tag }) = id := funext fun o => by cases o <;> rfl
  unfold State.requestMeasurement
  rw [show (none : Option VerifyTag).isSome = false from rfl]
  rcases h with h | h <;> rw [h]
  · exact updContainer_eq_self fun k _ => by rw [hflight]; rfl
  · exact updContainer_eq_self fun k _ => by rw [hmarker]; rfl

/-- Settles O44, from the tests of `exec_measureNow` and the gate of R31. -/
theorem measureNowTaken : Obligations.MeasureNowTaken := by
  unfold Obligations.MeasureNowTaken
  intro s p c k hp hmode hc hk
  rw [exec_measureNow hp hmode hc hk]
  refine ⟨fun hphase => ?_, fun hphase => ⟨fun honline => ?_, fun honline hlatched => ?_⟩⟩
  · have hlift : s.liftInProgress c = true := by
      rcases hphase with h | h | h <;> exact liftInProgress_eq_true h (by decide)
    rw [if_pos hlift]
  · rw [if_neg (by simp [liftInProgress_eq_false hphase]), if_pos honline]
  · have hgate := requestResult_gate hk hmode hlatched hphase honline
    rw [if_neg (by simp [liftInProgress_eq_false hphase]), if_neg (by simp [honline])]
    refine ⟨fun hfold => ?_, fun hfl hm => ?_⟩
    · have hresult : s.requestResult c false = .foldedInFlight ∨ s.requestResult c false = .foldedInMarker := by
        rw [hgate]
        by_cases hfl : k.est.flight.isSome = true
        · exact .inl (if_pos hfl)
        · exact .inr (by rw [if_neg hfl, if_pos (hfold.resolve_left hfl)])
      rw [requestMeasurement_folded (by rwa [taken_requestResult])]
      rcases hresult with h | h <;> rw [h] <;> rfl
    · rw [hgate, hfl, hm]
      have hpassed : (s.taken p).requestMeasurement c none =
          (s.taken p).updContainer c fun k => { k with marker := some { tag := none } } := by
        unfold State.requestMeasurement
        rw [show (none : Option VerifyTag).isSome = false from rfl, taken_requestResult, hgate, hfl, hm]
        rfl
      rw [hpassed]
      rfl

end Sys2Proof.Machine.FillEstimation
end

section
namespace Sys2Proof.Machine.FillEstimation

/-! ### O21: CONTAINER_SETUP (R24, R25) -/

theorem numberOf_singleton (a : Byte) : numberOf [a] = a.toNat := by simp [numberOf]

theorem numberOf_pair (a b : Byte) : numberOf [a, b] = 256 * a.toNat + b.toNat := by simp [numberOf]

/-- Two bytes spell a number below 65536. -/
theorem numberOf_bytesOf_two {n : Nat} (hn : n < 65536) : numberOf [byteOf (n / 256), byteOf n] = n := by
  rw [numberOf_pair, byteOf_toNat, byteOf_toNat]
  omega

theorem numberOf_byteOf {n : Nat} (hn : n < 256) : numberOf [byteOf n] = n := by
  rw [numberOf_singleton, byteOf_toNat, Nat.mod_eq_of_lt hn]

theorem bytesOf_two (n : Nat) : bytesOf 2 n = [byteOf (n / 256), byteOf n] := by simp [bytesOf]

theorem passageModeOfCode_code (m : PassageMode) : passageModeOfCode m.code = m := by cases m <;> rfl

theorem code_passageModeOfCode {n : Nat} (hn : n < 4) : (passageModeOfCode n).code = n := by
  interval_cases n <;> rfl

/-- The setup that the nineteen parameters of a CONTAINER_SETUP spell. -/
theorem setupOf_spelled {c presence e f v a n t1 t2 t3 h te modes : Nat} (hp : presence < 256) (he : e < 65536) (hf : f < 65536)
    (hv : v < 256) (ha : a < 256) (hn : n < 256) (ht1 : t1 < 65536) (ht2 : t2 < 65536) (ht3 : t3 < 65536) (hh : h < 256) (hte : te < 65536)
    (hm : modes < 256) :
    setupOf ([byteOf c, byteOf presence] ++ bytesOf 2 e ++ bytesOf 2 f ++ [byteOf v, byteOf a, byteOf n] ++ bytesOf 2 t1 ++
      bytesOf 2 t2 ++ bytesOf 2 t3 ++ [byteOf h] ++ bytesOf 2 te ++ [byteOf modes]) =
      { emptyDistance := e
        fullDistance := f
        perWeight := if presence.testBit 0 then v else 40
        alpha := if presence.testBit 1 then a else 4
        confirmations := if presence.testBit 2 then n else 2
        tNotice := if presence.testBit 3 then t1 else 700
        tFull := if presence.testBit 3 then t2 else 900
        tLock := if presence.testBit 3 then t3 else 980
        hysteresis := if presence.testBit 4 then h else 30
        tEmpty := if presence.testBit 5 then te else 150
        passNotice := passageModeOfCode ((if presence.testBit 6 then modes else 0x35) % 4)
        passFull := passageModeOfCode ((if presence.testBit 6 then modes else 0x35) / 4 % 4)
        passLock := passageModeOfCode ((if presence.testBit 6 then modes else 0x35) / 16 % 4) } := by
  simp only [setupOf, byteAt, field, bytesOf_two, List.cons_append, List.nil_append, List.drop_succ_cons, List.drop_zero, List.take_succ_cons,
    List.take_zero, numberOf_bytesOf_two, numberOf_byteOf, carried, bitOf, *]

/-- With no field carried, E and F alone are read; whatever follows them plays no part. -/
theorem setupOf_defaults {c e f : Nat} (he : e < 65536) (hf : f < 65536) (rest : List Byte) :
    setupOf (byteOf c :: 0 :: bytesOf 2 e ++ bytesOf 2 f ++ rest) =
      { emptyDistance := e, fullDistance := f, perWeight := 40, alpha := 4, confirmations := 2, tNotice := 700, tFull := 900, tLock := 980,
        hysteresis := 30, tEmpty := 150, passNotice := .up, passFull := .up, passLock := .both } := by
  have hpresence : numberOf [(0 : Byte)] = 0 := rfl
  simp only [setupOf, byteAt, field, bytesOf_two, List.cons_append, List.nil_append, List.drop_succ_cons, List.drop_zero, List.take_succ_cons,
    List.take_zero, numberOf_bytesOf_two, hpresence, carried, bitOf, Nat.zero_testBit, Bool.false_eq_true, if_false, he, hf]
  rfl

/-- The passage mode byte of a setup. -/
def modesByte (x : Setup) : Nat := x.passNotice.code + 4 * x.passFull.code + 16 * x.passLock.code

theorem passageMode_code_lt (m : PassageMode) : m.code < 4 := by cases m <;> decide

theorem modesByte_fields (x : Setup) :
    modesByte x < 64 ∧ modesByte x % 4 = x.passNotice.code ∧ modesByte x / 4 % 4 = x.passFull.code ∧ modesByte x / 16 % 4 = x.passLock.code := by
  have := passageMode_code_lt x.passNotice
  have := passageMode_code_lt x.passFull
  have := passageMode_code_lt x.passLock
  unfold modesByte
  omega

/-- The parameters that carry every field of a setup. -/
theorem carryAll_eq (c : Nat) (x : Setup) : byteOf c :: 0x7F :: x.bytes =
    [byteOf c, byteOf 127] ++ bytesOf 2 x.emptyDistance ++ bytesOf 2 x.fullDistance ++ [byteOf x.perWeight, byteOf x.alpha, byteOf x.confirmations] ++
      bytesOf 2 x.tNotice ++ bytesOf 2 x.tFull ++ bytesOf 2 x.tLock ++ [byteOf x.hysteresis] ++ bytesOf 2 x.tEmpty ++ [byteOf (modesByte x)] := by
  simp only [Setup.bytes, modesByte, List.append_assoc, List.cons_append, List.nil_append]
  rfl

theorem setupOf_carryAll {x : Setup} (hx : x.inRange = true) (c : Nat) : setupOf (byteOf c :: 0x7F :: x.bytes) = x := by
  obtain ⟨hE, hF, hv, hα, hN, hT, hh, hte⟩ := (inRange_iff x).1 hx
  obtain ⟨hmodes, hnotice, hfull, hlock⟩ := modesByte_fields x
  rw [carryAll_eq, setupOf_spelled (by decide) (by omega) (by omega) (by omega) (by omega) (by omega) (by omega) (by omega) (by omega) (by omega)
    (by omega) (by omega)]
  simp [show Nat.testBit 127 0 = true from rfl, show Nat.testBit 127 1 = true from rfl, show Nat.testBit 127 2 = true from rfl,
    show Nat.testBit 127 3 = true from rfl, show Nat.testBit 127 4 = true from rfl, show Nat.testBit 127 5 = true from rfl,
    show Nat.testBit 127 6 = true from rfl, hnotice, hfull, hlock, passageModeOfCode_code]

theorem byteAt_lt (ps : List Byte) (i : Nat) : byteAt ps i < 256 := by
  unfold byteAt field
  rcases ps.drop i with _ | ⟨b, bs⟩
  · decide
  · rw [List.take_succ_cons, List.take_zero, numberOf_singleton]
    exact b.isLt

theorem testBit_seven {n : Nat} (hn : n < 256) : n.testBit 7 = decide (128 ≤ n) := by
  rw [Nat.testBit_eq_decide_div_mod_eq]
  exact decide_eq_decide.2 (by omega)

/-- The unused bits that a CONTAINER_SETUP may not set. -/
theorem setupBytesFit_iff (ps : List Byte) :
    setupBytesFit ps = true ↔ byteAt ps 1 < 128 ∧ ((byteAt ps 1).testBit 6 = true → byteAt ps 18 < 64) := by
  simp only [setupBytesFit, bitOf, testBit_seven (byteAt_lt ps 1), Bool.and_eq_true, Bool.or_eq_true, Bool.not_eq_true', decide_eq_true_eq,
    decide_eq_false_iff_not, Nat.not_le]
  refine and_congr_right fun _ => ?_
  cases (byteAt ps 1).testBit 6 <;> simp

/-- The parameters that carry every field of a setup set no unused bit. -/
theorem setupBytesFit_carryAll (c : Nat) (x : Setup) : setupBytesFit (byteOf c :: 0x7F :: x.bytes) = true := by
  obtain ⟨hmodes, _⟩ := modesByte_fields x
  have hpresence : byteAt (byteOf c :: 0x7F :: x.bytes) 1 = 127 := by simp [byteAt, field, numberOf]
  have hbyte : byteAt (byteOf c :: 0x7F :: x.bytes) 18 = modesByte x := by
    rw [carryAll_eq]
    simp only [byteAt, field, bytesOf_two, List.cons_append, List.nil_append, List.drop_succ_cons, List.drop_zero, List.take_succ_cons,
      List.take_zero]
    exact numberOf_byteOf (by omega)
  exact (setupBytesFit_iff _).2 ⟨by omega, fun _ => by omega⟩

/-- A CONTAINER_SETUP for a container in use, in CONFIGURE, stores a setup that fits and is in range, and refuses another RANGE. -/
theorem exec_containerSetup {s : State} {p : Port} {k : Container} {ps : List Byte} (hp : Ready s p) (hmode : s.mode = .configure)
    (hlength : ps.length = 19) (hc : byteAt ps 0 < 64) (hk : s.container? (byteAt ps 0) = some k) :
    exec (.containerSetup p (request 12 ps)) s =
      .next (if setupBytesFit ps && (setupOf ps).inRange then
          ((s.taken p).updContainer (byteAt ps 0) fun k => { k with written := some (setupOf ps), writtenMarker := true }).reply p 12 .ok []
        else s.answer p 12 .range []) := by
  have hserved : s.takeRequest p 12 (request 12 ps) (State.containerSetup p ps) = State.containerSetup p ps (s.taken p) :=
    takeRequest_ready _ hp (r := configureOnly (exactly 19)) rfl (by simp [configureOnly, exactly, hlength]) (by cases p <;> rfl)
      (by rw [hmode]; rfl) (by decide)
  refine congrArg Host.Outcome.next (hserved.trans ?_)
  unfold State.containerSetup
  rw [onContainer_inUse (k := k) _ hc (by rwa [taken_container?])]
  rfl

/-- Settles O21, from what the parameters spell and from the tests of `exec_containerSetup`. -/
theorem setupStored : Obligations.SetupStored := by
  unfold Obligations.SetupStored
  refine ⟨fun s p c k x hp hmode hc hk hx => ?_, fun s p k ps hp hmode hlength hc hk hx => ?_,
    fun s p k ps hp hmode hlength hc hk => ⟨fun hbits => ?_, fun hpresence hmodes hx => ?_⟩, ?_, fun x => ?_,
    fun c e f rest he hf => setupOf_defaults he hf rest⟩
  · have hbyte : byteAt (byteOf c :: 0x7F :: x.bytes) 0 = c := byteAt_byteOf (by omega) _
    rw [exec_containerSetup hp hmode (by simp [Setup.bytes, bytesOf_two]) (by omega) (by rwa [hbyte]), setupBytesFit_carryAll, setupOf_carryAll hx, hx, hbyte]
    rfl
  · rw [exec_containerSetup hp hmode hlength hc hk, hx, Bool.and_false]
    rfl
  · have hfit : setupBytesFit ps = false := by
      rw [← Bool.not_eq_true, setupBytesFit_iff]
      rintro ⟨hlow, hmodes⟩
      rcases hbits with h | ⟨h6, h⟩
      · omega
      · have := hmodes h6; omega
    rw [exec_containerSetup hp hmode hlength hc hk, hfit, Bool.false_and]
    rfl
  · rw [exec_containerSetup hp hmode hlength hc hk, (setupBytesFit_iff ps).2 ⟨hpresence, hmodes⟩, hx]
    rfl
  · rintro c presence e f v a n t1 t2 t3 h te modes x - hp he hf hv ha hn ht1 ht2 ht3 hh hte hm rfl
    rw [setupOf_spelled hp he hf hv ha hn ht1 ht2 ht3 hh hte hm]
    refine ⟨rfl, rfl, rfl, rfl, rfl, rfl, rfl, rfl, rfl, rfl, ?_, ?_, ?_⟩
    all_goals
      rw [code_passageModeOfCode (Nat.mod_lt _ (by decide))]
      split <;> rfl
  · rw [inRange_iff]
    omega

end Sys2Proof.Machine.FillEstimation
end

section
namespace Sys2Proof.Machine.FillEstimation

/-! ### Bits in a byte -/

theorem ofBits_lt (bs : List Bool) : ofBits bs < 2 ^ bs.length := by
  induction bs with
  | nil => decide
  | cons b bs ih =>
    rw [ofBits, List.length_cons, Nat.pow_succ]
    split <;> omega

theorem testBit_ofBits (bs : List Bool) (i : Nat) : (ofBits bs).testBit i = (bs[i]?).getD false := by
  induction bs generalizing i with
  | nil => simp [ofBits]
  | cons b bs ih =>
    have hbit : (if b then 1 else 0) < 2 ^ 1 := by split <;> decide
    rw [ofBits, Nat.add_comm, show 2 * ofBits bs = 2 ^ 1 * ofBits bs from rfl, Nat.testBit_two_pow_mul_add _ hbit]
    cases i with
    | zero => cases b <;> rfl
    | succ i => simpa using ih i

/-- The bits above a two-bit code. -/
theorem testBit_code_add {code : Nat} (hcode : code < 4) (bs : List Bool) (i : Nat) :
    (code + 4 * ofBits bs).testBit (i + 2) = (bs[i]?).getD false := by
  rw [Nat.add_comm, show 4 * ofBits bs = 2 ^ 2 * ofBits bs from rfl, Nat.testBit_two_pow_mul_add _ hcode, if_neg (by omega)]
  exact testBit_ofBits bs i

/-! ### The parts of the container status record (R49) -/

/-- Offsets 0 to 23. -/
def recordHead (c : Nat) (k : Container) : List Byte :=
  [byteOf c, byteOf (k.fraction.code + 8 * k.setupCode), k.estimatorByte, byteOf k.est.rejected, byteOf (k.est.smoothed.getD 0 / 256),
    byteOf (k.est.smoothed.getD 0), byteOf (k.est.credit / 256), byteOf k.est.credit, byteOf (k.est.credited / 256), byteOf k.est.credited,
    byteOf (k.est.level / 256), byteOf k.est.level, byteOf (k.est.rate / 256), byteOf k.est.rate, byteOf (k.est.baseline.getD 0 / 256),
    byteOf (k.est.baseline.getD 0), byteOf k.est.forecast, bandByte k.est.band, bandByte k.est.candidate, byteOf k.est.count,
    byteOf (k.est.deposits / 256), byteOf k.est.deposits, byteOf (k.est.periodic.getD 65535 / 256), byteOf (k.est.periodic.getD 65535)]

/-- Offsets 34 to 38. -/
def recordStates (s : State) (c : Nat) (k : Container) : List Byte :=
  [byteOf (k.hatch.state.code + 4 * k.hatch.force.code), phaseByte (s.phaseOf c), byteOf (blockCode k.blocked), entryByte (s.entry? c),
    k.flags.byte]

/-- Offsets 39 to 55. -/
def setupArea (k : Container) : List Byte :=
  match k.latched with
  | some x => x.bytes
  | none => List.replicate 17 0

theorem statusRecord_eq (s : State) (c : Nat) (k : Container) :
    s.statusRecord c k = recordHead c k ++ (k.sampleBytes ++ (recordStates s c k ++ setupArea k)) := by
  simp only [State.statusRecord, recordHead, recordStates, bytesOf_two, List.cons_append, List.nil_append, List.append_assoc]
  rfl

theorem sampleBytes_length (k : Container) : k.sampleBytes.length = 10 := by
  unfold Container.sampleBytes
  split
  · simp [bytesOf]
  · split <;> simp [bytesOf]

theorem setupArea_length (k : Container) : (setupArea k).length = 17 := by
  unfold setupArea
  split
  · simp [Setup.bytes, bytesOf]
  · rfl

theorem field_add (ps : List Byte) (i j n : Nat) : field ps (i + j) n = field (ps.drop i) j n := by
  simp [field, List.drop_drop]

section
variable (s : State) (c : Nat) (k : Container)

theorem statusRecord_length : (s.statusRecord c k).length = 56 := by
  rw [statusRecord_eq]
  simp [sampleBytes_length, setupArea_length, recordHead, recordStates]

theorem statusRecord_drop_24 : (s.statusRecord c k).drop 24 = k.sampleBytes ++ (recordStates s c k ++ setupArea k) := by
  rw [statusRecord_eq]
  exact List.drop_left' rfl

theorem statusRecord_drop_34 : (s.statusRecord c k).drop 34 = recordStates s c k ++ setupArea k := by
  rw [show 34 = 24 + 10 from rfl, ← List.drop_drop, statusRecord_drop_24]
  exact List.drop_left' (sampleBytes_length k)

theorem statusRecord_drop_39 : (s.statusRecord c k).drop 39 = setupArea k := by
  rw [show 39 = 34 + 5 from rfl, ← List.drop_drop, statusRecord_drop_34]
  rfl

end

theorem bandByte_toNat (b : Option Band) : numberOf [bandByte b] = (b.map Band.number).getD 255 := by
  rcases b with _ | _ | _ | _ | _ <;> rfl

/-- The estimate of a sound container, as bounds on its fields. -/
theorem estimate_bounds {k : Container} (h : k.EstimateOk) :
    k.est.smoothed.getD 0 ≤ 16000 ∧ k.est.credit ≤ 16000 ∧ k.est.credited ≤ 16000 ∧ k.est.level ≤ 1000 ∧ k.est.rate ≤ 16000 ∧
      k.est.baseline.getD 0 ≤ 16000 ∧ k.est.forecast ≤ 255 ∧ k.est.rejected ≤ 255 ∧ k.est.deposits ≤ 65535 ∧ k.est.count ≤ 4 := by
  obtain ⟨_, _, hsmoothed, hcredit, hcredited, hlevel, hrate, hbaseline, hforecast, hrejected, hdeposits, hcount, _⟩ := h
  have hS : k.est.smoothed.getD 0 ≤ 16000 := by
    rcases hv : k.est.smoothed with _ | v
    · simp
    · exact hsmoothed v hv
  have hB : k.est.baseline.getD 0 ≤ 16000 := by
    rcases hv : k.est.baseline with _ | v
    · simp
    · exact hbaseline v hv
  refine ⟨hS, hcredit, by omega, by omega, hrate, hB, hforecast, hrejected, hdeposits, hcount⟩

/-! ### O16: the container status record -/

theorem setupCode_le (k : Container) : k.setupCode ≤ 3 := by
  unfold Container.setupCode
  split <;> decide

theorem fraction_code_le (f : Fraction) : f.code ≤ 4 := by cases f <;> decide

theorem sensor_code_lt (x : Sensor) : x.code < 4 := by cases x <;> decide

theorem hatch_code_lt (h : HatchRecord) : h.state.code + 4 * h.force.code < 256 := by
  have : h.state.code ≤ 2 := by cases h.state <;> decide
  have : h.force.code ≤ 2 := by cases h.force <;> decide
  omega

/-- Offset 2 as a number. -/
theorem estimatorByte_number (k : Container) :
    numberOf [k.estimatorByte] = k.est.sensor.code + 4 * ofBits
      [k.est.sensor == .faulty, k.est.smoothed.isSome, k.est.baseline.isSome, k.est.flight.isSome, k.marker.isSome, k.est.tagged] := by
  have hcode := sensor_code_lt k.est.sensor
  have hbits := ofBits_lt
    [k.est.sensor == .faulty, k.est.smoothed.isSome, k.est.baseline.isSome, k.est.flight.isSome, k.marker.isSome, k.est.tagged]
  refine numberOf_byteOf ?_
  simp only [List.length_cons, List.length_nil] at hbits
  omega

theorem phaseByte_number (ph : Option Phase) : numberOf [phaseByte ph] = (ph.map Phase.code).getD 0 := by
  rcases ph with _ | _ | _ | _ | _ <;> rfl

theorem blockCode_number (b : Option BlockCause) : numberOf [byteOf (blockCode b)] = blockCode b := by
  rcases b with _ | _ | _ | _ | _ <;> rfl

theorem entryByte_number (e : Option Entry) : numberOf [entryByte e] =
    (match e with
      | none => 0
      | some e => e.reason.code + if e.claimed = true then 8 else 0) := by
  rcases e with _ | ⟨_, reason, claimed, _, _, _⟩
  · rfl
  · cases reason <;> cases claimed <;> rfl

theorem flags_byte_number (f : ContainerFlags) : numberOf [f.byte] = ofBits f.bits := by
  have hbits := ofBits_lt f.bits
  rw [show f.bits.length = 8 from rfl] at hbits
  exact numberOf_byteOf (by omega)

/-- Offsets 2 to 33 for a container with no latched setup. -/
theorem statusRecord_unlatched {k : Container} (hok : k.EstimateOk) (hnone : k.latched = none) (s : State) (c : Nat) :
    ((s.statusRecord c k).drop 2).take 32 =
      List.replicate 15 0 ++ [255, 255, 0, 0, 0] ++ [255, 255, 255, 255, 255] ++ List.replicate 7 0 := by
  obtain ⟨_, _, _, _, _, _, _, _, _, _, _, _, _, hunlatched⟩ := hok
  obtain ⟨hest, hmarker⟩ := hunlatched hnone
  have hsample : k.sampleBytes = [255, 255, 255] ++ List.replicate 7 0 := by
    unfold Container.sampleBytes
    rw [hest, hnone]
    rfl
  have hestimator : k.estimatorByte = 0 := by
    unfold Container.estimatorByte
    rw [hest, hmarker]
    rfl
  rw [statusRecord_eq, hsample, recordHead, hestimator, hest]
  rfl

/-- Settles O16, from the parts of the record (`statusRecord_eq`) and the bounds of a sound estimate. -/
theorem containerRecordLayout : Obligations.ContainerRecordLayout := by
  unfold Obligations.ContainerRecordLayout
  intro s c k hc hok
  obtain ⟨hS, hP, hC, hL, hR, hB, hH, hrejected, hdeposits, hcount⟩ := estimate_bounds hok
  have hfraction := fraction_code_le k.fraction
  have hsetup := setupCode_le k
  dsimp only
  have hhead : ∀ i n, field (s.statusRecord c k) i n =
      field (recordHead c k ++ (k.sampleBytes ++ (recordStates s c k ++ setupArea k))) i n := fun i n => by rw [statusRecord_eq]
  have hstates : ∀ j n, field (s.statusRecord c k) (34 + j) n = field (recordStates s c k ++ setupArea k) j n := fun j n => by
    rw [field_add, statusRecord_drop_34]
  have hfirst : field (s.statusRecord c k) 1 1 = k.fraction.code + 8 * k.setupCode := (hhead 1 1).trans (numberOf_byteOf (by omega))
  have hestimator : field (s.statusRecord c k) 2 1 = _ := (hhead 2 1).trans (estimatorByte_number k)
  have hflags : field (s.statusRecord c k) 38 1 = ofBits k.flags.bits := (hstates 4 1).trans (flags_byte_number k.flags)
  have hbit := testBit_code_add (sensor_code_lt k.est.sensor)
  refine ⟨statusRecord_length s c k, (hhead 0 1).trans (numberOf_byteOf (by omega)), by omega, ?_, ?_, ?_, ?_, ?_, ?_, ?_, ?_,
    (hhead 3 1).trans (numberOf_byteOf (by omega)), (hhead 4 2).trans (numberOf_bytesOf_two (by omega)),
    (hhead 6 2).trans (numberOf_bytesOf_two (by omega)), (hhead 8 2).trans (numberOf_bytesOf_two (by omega)),
    (hhead 10 2).trans (numberOf_bytesOf_two (by omega)), (hhead 12 2).trans (numberOf_bytesOf_two (by omega)),
    (hhead 14 2).trans (numberOf_bytesOf_two (by omega)), (hhead 16 1).trans (numberOf_byteOf (by omega)),
    (hhead 17 1).trans (bandByte_toNat _), (hhead 18 1).trans (bandByte_toNat _), (hhead 19 1).trans (numberOf_byteOf (by omega)),
    (hhead 20 2).trans (numberOf_bytesOf_two (by omega)), fun hnone => ?_, fun n hn hle => ?_, fun hnone => ?_, fun smp hsmp => ?_,
    (hstates 0 1).trans (numberOf_byteOf (hatch_code_lt k.hatch)), (hstates 1 1).trans (phaseByte_number _),
    (hstates 2 1).trans (blockCode_number _), (hstates 3 1).trans ((entryByte_number _).trans ?_), fun i => ?_, rfl, fun x hx => ?_,
    fun hnone => ⟨?_, ?_⟩⟩
  · rw [hfirst, show (k.fraction.code + 8 * k.setupCode) / 8 = k.setupCode by omega]
    rfl
  · have := sensor_code_lt k.est.sensor
    rw [hestimator]
    omega
  · rw [hestimator]
    exact (hbit _ 0).trans (beq_eq_decide _ _)
  · rw [hestimator]; exact hbit _ 1
  · rw [hestimator]; exact hbit _ 2
  · rw [hestimator]; exact hbit _ 3
  · rw [hestimator]; exact hbit _ 4
  · rw [hestimator]; exact hbit _ 5
  · refine (hhead 22 2).trans ((numberOf_bytesOf_two (n := k.est.periodic.getD 65535) ?_).trans ?_) <;> simp [hnone]
  · refine (hhead 22 2).trans ((numberOf_bytesOf_two (n := k.est.periodic.getD 65535) ?_).trans ?_) <;> simp [hn]
    omega
  · have hsample : k.sampleBytes = bytesOf 2 65535 ++ [255] ++ k.sampleBytes.drop 3 := by
      unfold Container.sampleBytes
      rw [hnone]
      rfl
    have hfield : ∀ j n, field (s.statusRecord c k) (24 + j) n =
        field (bytesOf 2 65535 ++ [255] ++ k.sampleBytes.drop 3 ++ (recordStates s c k ++ setupArea k)) j n := fun j n => by
      rw [field_add, statusRecord_drop_24, ← hsample]
    exact ⟨hfield 0 2, hfield 2 1⟩
  · rw [statusRecord_drop_24, List.take_left' (sampleBytes_length k), Container.sampleBytes, hsmp]
  · rfl
  · rw [hflags, testBit_ofBits]
  · rw [statusRecord_drop_39, setupArea, hx]
    rfl
  · exact statusRecord_unlatched hok hnone s c
  · rw [statusRecord_drop_39, setupArea, hnone]

end Sys2Proof.Machine.FillEstimation
end

section
namespace Sys2Proof.Machine

open FillEstimation

/-! ### O8: sound estimator records -/

/-- The conditions of a sound estimate that speak of the estimator record alone (R41, R43, R45, R46, R50). -/
structure Estimator.Sound (e : Estimator) : Prop where
  smoothed_le : ∀ v, e.smoothed = some v → v ≤ 16000
  credit_le : e.credit ≤ 16000
  credited_eq : e.credited = min 16000 (e.smoothed.getD 0 + e.credit)
  level_eq : e.level = (e.credited + 8) / 16
  rate_le : e.rate ≤ 16000
  baseline_le : ∀ v, e.baseline = some v → v ≤ 16000
  forecast_le : e.forecast ≤ 255
  rejected_le : e.rejected ≤ 255
  deposits_le : e.deposits ≤ 65535
  count_le : e.count ≤ 4
  unknown_iff : e.smoothed = none ↔ e.band = none

/-- A container's estimate is sound by its setups, its estimator record, and the rest of a container with no latched setup. -/
theorem Container.estimateOk_iff (k : Container) : k.EstimateOk ↔
    (∀ x, k.latched = some x → x.inRange = true) ∧ (∀ x, k.written = some x → x.inRange = true) ∧ k.est.Sound ∧
      (k.latched = none → k.est = .fresh ∧ k.marker = none) := by
  constructor
  · rintro ⟨hlatched, hwritten, h1, h2, h3, h4, h5, h6, h7, h8, h9, h10, h11, hnone⟩
    exact ⟨hlatched, hwritten, ⟨h1, h2, h3, h4, h5, h6, h7, h8, h9, h10, h11⟩, hnone⟩
  · rintro ⟨hlatched, hwritten, ⟨h1, h2, h3, h4, h5, h6, h7, h8, h9, h10, h11⟩, hnone⟩
    exact ⟨hlatched, hwritten, h1, h2, h3, h4, h5, h6, h7, h8, h9, h10, h11, hnone⟩

namespace Estimator.Sound

variable {e : Estimator} (h : e.Sound)
include h

theorem credited_le : e.credited ≤ 16000 := by have := h.credited_eq; omega

theorem band_isSome {v : Nat} (hv : e.smoothed = some v) : ∃ b, e.band = some b :=
  Option.ne_none_iff_exists'.1 fun hb => by simp [h.unknown_iff.2 hb] at hv

/-- Reinitialisation (R26). -/
theorem reinitialise : e.reinitialise.Sound := by
  rw [Estimator.reinitialise_eq]
  exact { h with
    smoothed_le := by simp, credit_le := by simp, credited_eq := rfl, level_eq := by simp, rate_le := by simp, baseline_le := by simp
    forecast_le := le_rfl, rejected_le := by simp, count_le := by simp, unknown_iff := by simp }

theorem forecastNow (x : Setup) : (e.forecastNow x).Sound := { h with forecast_le := hoursToFull_le _ _ _ }

/-- Stage 4 keeps the rate in its range: a weighted mean of the rate before it and the hour's growth (R45). -/
theorem stage4 (x : Setup) : (e.stage4 x).Sound := by
  have hcredited := h.credited_le
  have hrate := h.rate_le
  have hbaseline : ∀ v, some e.credited = some v → v ≤ 16000 := by rintro v ⟨⟩; exact hcredited
  unfold Estimator.stage4
  refine forecastNow ?_ x
  split
  · exact { h with baseline_le := hbaseline }
  · exact { h with rate_le := by dsimp only; omega, baseline_le := hbaseline }

/-- The estimator's part of a deposit credit (R42). -/
theorem addDeposit (x : Setup) (w : Nat) : (e.addDeposit x w).Sound :=
  { h with credit_le := min_le_left _ _, credited_eq := rfl, level_eq := rfl, deposits_le := min_le_left _ _ }

/-- A band of a known level (R50). -/
theorem banded (x : Setup) (b : Band) (hknown : e.smoothed ≠ none) : (banded x b e).Sound :=
  { h with forecast_le := hoursToFull_le _ _ _, count_le := by simp [FillEstimation.banded, entered, Estimator.forecastNow]
           unknown_iff := iff_of_false hknown (by simp [FillEstimation.banded, entered, Estimator.forecastNow]) }

end Estimator.Sound

/-- The record as a container comes into use. -/
theorem Estimator.sound_fresh : Estimator.fresh.Sound := by constructor <;> simp [Estimator.fresh]

/-! ### The record after an accepted sample -/

section
variable {x : Setup} (hx : x.inRange = true) {e : Estimator} (tag : Option VerifyTag) (seed : Bool) (d : Nat)
include hx

/-- S after a sample lies in its range (R41, R44). -/
theorem absorbed_smoothed_le (h : e.Sound) : ∀ v, (absorbed x tag d e).smoothed = some v → v ≤ 16000 := by
  obtain ⟨_, _, _, ⟨_, halpha⟩, _⟩ := (inRange_iff x).1 hx
  have hlevel := levelAt_le hx d
  rintro v ⟨⟩
  rcases hv : e.smoothed with _ | u
  · simp [sensed, hv]; omega
  · simp only [sensed, hv]
    split
    · omega
    · exact smoothTo_le halpha hlevel (h.smoothed_le u hv)

/-- The band filter's count stays below the number of samples that it asks for (R53). -/
theorem evaluated_count_le (h : e.count ≤ 4) : (evaluated x seed e).count ≤ 4 := by
  obtain ⟨_, _, _, _, ⟨_, hconfirmations⟩, _⟩ := (inRange_iff x).1 hx
  unfold evaluated
  split
  · exact Nat.zero_le _
  · split
    · exact h
    · split_ifs
      · exact Nat.zero_le _
      · exact Nat.zero_le _
      · dsimp only; omega

omit hx in
/-- The evaluation of a sample leaves no band UNKNOWN that was known, and a seed leaves none. -/
theorem evaluated_band_isSome (h : seed = true ∨ e.band ≠ none) : (evaluated x seed e).band ≠ none := by
  unfold evaluated
  split
  · simp [banded, entered, Estimator.forecastNow]
  · next hseed =>
    have hband := h.resolve_left hseed
    split
    · contradiction
    · split_ifs <;> simp_all [banded, entered, Estimator.forecastNow]

/-- An accepted sample leaves a sound record (R40 to R44, R53, R54). -/
theorem Estimator.Sound.sampled (h : e.Sound) (sample : Sample) : (sampled x tag (e.seeds tag) d sample e).Sound := by
  have hcredited : (absorbed x tag d e).credited ≤ 16000 := by rw [absorbed_credited]; omega
  constructor
  case smoothed_le => simpa using absorbed_smoothed_le hx tag d h
  case credit_le => simp [absorbed, Estimator.absorb, Estimator.stage3]
  case credited_eq => simp [absorbed, Estimator.absorb, Estimator.stage3]
  case level_eq => simp [absorbed_level]
  case rate_le => simpa [absorbed, Estimator.absorb, Estimator.stage3, sensed] using h.rate_le
  case baseline_le =>
    rw [sampled_baseline]
    split
    · rintro v ⟨⟩; exact hcredited
    · exact h.baseline_le
  case forecast_le =>
    rw [sampled_forecast, evaluated_forecast]
    split
    · exact hoursToFull_le _ _ _
    · exact h.forecast_le
  case rejected_le => simp [absorbed, Estimator.absorb, Estimator.stage3, sensed]
  case deposits_le =>
    rw [sampled_deposits]
    split
    · omega
    · exact h.deposits_le
  case count_le =>
    rw [sampled_count]
    exact evaluated_count_le hx _ h.count_le
  case unknown_iff =>
    rw [sampled_smoothed, sampled_band]
    refine iff_of_false (by simp [absorbed_smoothed]) (evaluated_band_isSome _ ?_)
    rcases hv : e.smoothed with _ | v
    · exact .inl (by simp [Estimator.seeds, hv])
    · obtain ⟨b, hb⟩ := h.band_isSome hv
      exact .inr (by simp [absorbed_band, hb])

end

end Sys2Proof.Machine
end

section
namespace Sys2Proof.Machine

open FillEstimation

/-! ### Sound containers -/

namespace Container.EstimateOk

variable {k : Container} (h : k.EstimateOk)
include h

theorem inRange {x : Setup} (hx : k.latched = some x) : x.inRange = true := h.1 x hx

theorem sound : k.est.Sound := (k.estimateOk_iff.1 h).2.2.1

/-- A container whose estimator or scanner holds anything has a latched setup. -/
theorem latched_of_ne (hne : k.est ≠ .fresh ∨ k.marker ≠ none) : k.latched.isSome = true := by
  obtain ⟨_, _, _, hnone⟩ := k.estimateOk_iff.1 h
  rcases hl : k.latched with _ | x
  · obtain ⟨hest, hmarker⟩ := hnone hl
    exact (hne.elim (· hest) (· hmarker)).elim
  · rfl

theorem latched_of_flight {fl : Flight} (hfl : k.est.flight = some fl) : k.latched.isSome = true :=
  h.latched_of_ne (.inl fun hest => by simp [hest, Estimator.fresh] at hfl)

theorem latched_of_periodic {n : Nat} (hn : k.est.periodic = some n) : k.latched.isSome = true :=
  h.latched_of_ne (.inl fun hest => by simp [hest, Estimator.fresh] at hn)

theorem latched_of_marker {m : Marker} (hm : k.marker = some m) : k.latched.isSome = true :=
  h.latched_of_ne (.inr fun hnone => by simp [hnone] at hm)

/-- A change of the estimator record that keeps it sound and a fresh one fresh. -/
theorem remeasured {k' : Container} (hlatched : k'.latched = k.latched) (hwritten : k'.written = k.written)
    (hsound : k.est.Sound → k'.est.Sound) (hfresh : k.est = .fresh → k'.est = .fresh) (hmarker : k.marker = none → k'.marker = none) :
    k'.EstimateOk := by
  obtain ⟨hl, hw, hs, hnone⟩ := k.estimateOk_iff.1 h
  refine k'.estimateOk_iff.2 ⟨hlatched ▸ hl, hwritten ▸ hw, hsound hs, fun hn => ?_⟩
  obtain ⟨hest, hm⟩ := hnone (hlatched ▸ hn)
  exact ⟨hfresh hest, hmarker hm⟩

/-- With a latched setup, any sound record will do. -/
theorem of_latched {k' : Container} (hsome : k.latched.isSome = true) (hlatched : k'.latched = k.latched) (hwritten : k'.written = k.written)
    (hsound : k'.est.Sound) : k'.EstimateOk := by
  obtain ⟨hl, hw, _, _⟩ := k.estimateOk_iff.1 h
  refine k'.estimateOk_iff.2 ⟨hlatched ▸ hl, hwritten ▸ hw, hsound, fun hn => ?_⟩
  simp [hlatched ▸ hn] at hsome

/-- The estimate of a container depends on its gauge alone. -/
theorem of_gauge {k' : Container} (hg : gauge k' = gauge k) : k'.EstimateOk := by
  obtain ⟨hl, hw, he, _, hm⟩ :
      k'.latched = k.latched ∧ k'.written = k.written ∧ k'.est = k.est ∧ k'.flags = k.flags ∧ k'.marker = k.marker := by
    simpa [FillEstimation.gauge] using hg
  exact h.remeasured hl hw (fun hs => he ▸ hs) (fun hf => he.trans hf) fun hn => hm.trans hn

end Container.EstimateOk

theorem Container.estimateOk_fresh (f : Fraction) : (Container.fresh f).EstimateOk :=
  (Container.estimateOk_iff _).2 ⟨by simp [Container.fresh], by simp [Container.fresh], Estimator.sound_fresh, fun _ => ⟨rfl, rfl⟩⟩

/-! ### Sound states -/

theorem State.hasLatched_eq {s : State} {c : Nat} {k : Container} (hk : s.container? c = some k) : s.hasLatched c = k.latched.isSome := by
  simp [State.hasLatched, hk]

/-- An update that keeps the latched setup leaves every container with or without one. -/
theorem State.hasLatched_updContainer (s : State) (c d : Nat) {f : Container → Container} (hf : ∀ k, (f k).latched = k.latched) :
    (s.updContainer c f).hasLatched d = s.hasLatched d := by
  unfold State.hasLatched
  rw [State.container?_updContainer]
  split_ifs with hd
  · subst hd
    cases s.container? d <;> simp [hf]
  · rfl

/-- What holds of a state and is kept by the change for each number of a list holds after all of them. -/
theorem forEach_induction {P : State → Prop} {ns : List Nat} {f : Nat → State → State} (hf : ∀ n ∈ ns, ∀ s, P s → P (f n s)) {s : State}
    (hs : P s) : P (forEach ns f s) := by
  induction ns generalizing s with
  | nil => exact hs
  | cons n ns ih => exact ih (fun m hm => hf m (List.mem_cons_of_mem n hm)) (hf n (List.mem_cons_self ..) s hs)

/-- The slots of a station that hold containers, the first four, have sound estimates. -/
def SlotsOk (slots : List Container) : Prop := ∀ i k, i < 4 → slots[i]? = some k → k.EstimateOk

theorem estimatesOk_iff_slots (s : State) : EstimatesOk s ↔ ∀ t st, s.station? t = some st → SlotsOk st.slots := by
  constructor
  · intro h t st hst i k hi hk
    refine h (4 * t + i) k ?_
    have hdiv : (4 * t + i) / 4 = t := by omega
    have hmod : (4 * t + i) % 4 = i := by omega
    simp [State.container?, hdiv, hmod, hst, hk]
  · intro h c k hk
    unfold State.container? at hk
    split at hk
    · next st hst => exact h _ st hst _ k (Nat.mod_lt _ (by omega)) hk
    · cases hk

/-- The slots after a change of each container that keeps its estimate sound. -/
theorem SlotsOk.map {slots : List Container} (h : SlotsOk slots) {f : Container → Container} (hf : ∀ k, k.EstimateOk → (f k).EstimateOk) :
    SlotsOk (slots.map f) := by
  intro i k hi hk
  rw [List.getElem?_map, Option.map_eq_some_iff] at hk
  obtain ⟨k', hk', rfl⟩ := hk
  exact hf k' (h i k' hi hk')

namespace EstimatesOk

variable {s : State} (h : EstimatesOk s)
include h

theorem of_gauges {t : State} (hg : gauges t = gauges s) : EstimatesOk t := by
  intro c k hk
  obtain ⟨k', hk', hgauge⟩ := exists_container_of_gauges hg.symm hk
  exact (h c k' hk').of_gauge hgauge.symm

theorem of_stations {t : State} (ht : t.stations = s.stations) : EstimatesOk t := h.of_gauges (gauges_congr ht)

theorem updContainer {c : Nat} {f : Container → Container} (hf : ∀ k, s.container? c = some k → k.EstimateOk → (f k).EstimateOk) :
    EstimatesOk (s.updContainer c f) := by
  intro d k hk
  rw [State.container?_updContainer] at hk
  split_ifs at hk with hd
  · obtain ⟨k', hk', rfl⟩ := Option.map_eq_some_iff.1 hk
    exact hf k' hk' (h c k' hk')
  · exact h d k hk

/-- A change of the estimator record that keeps it sound and a fresh one fresh. -/
theorem updEst {f : Estimator → Estimator} (c : Nat) (hsound : ∀ e : Estimator, e.Sound → (f e).Sound) (hfresh : f .fresh = .fresh) :
    EstimatesOk (s.updEst c f) :=
  h.updContainer fun k _ hk => hk.remeasured rfl rfl (hsound k.est) (fun hf => (congrArg f hf).trans hfresh) id

/-- A change of the estimator record of a container with a latched setup. -/
theorem updEst_of_latched {c : Nat} {f : Estimator → Estimator} (hl : s.hasLatched c = true)
    (hsound : ∀ k, s.container? c = some k → k.est.Sound → (f k.est).Sound) : EstimatesOk (s.updEst c f) :=
  h.updContainer fun k hc hk => hk.of_latched (State.hasLatched_eq hc ▸ hl) rfl rfl (hsound k hc hk.sound)

theorem updFlags (c : Nat) (f : ContainerFlags → ContainerFlags) : EstimatesOk (s.updFlags c f) :=
  h.updContainer fun _ _ hk => hk.remeasured rfl rfl id id id

theorem each {ns : List Nat} {f : Nat → State → State} (hf : ∀ n s, EstimatesOk s → EstimatesOk (f n s)) :
    EstimatesOk (forEach ns f s) :=
  forEach_induction (fun n _ => hf n) h

/-- A change of one station's slots. -/
theorem updStation (t : Nat) {f : Station → Station} (hf : ∀ st, SlotsOk st.slots → SlotsOk (f st).slots) : EstimatesOk (s.updStation t f) := by
  rw [estimatesOk_iff_slots] at h ⊢
  intro u st hst
  rw [State.station?_updStation] at hst
  split_ifs at hst with hu
  · obtain ⟨st', hst', rfl⟩ := Option.map_eq_some_iff.1 hst
    exact hf st' (h t st' hst')
  · exact h u st hst

/-- A change of a station that keeps its slots. -/
theorem updStation_of_slots (t : Nat) {f : Station → Station} (hf : ∀ st, (f st).slots = st.slots) : EstimatesOk (s.updStation t f) :=
  h.updStation t fun st hst => (hf st).symm ▸ hst

/-- A change of every container that keeps its estimate sound. -/
theorem mapContainers {t : State} {f : Station → Station} {g : Container → Container} (ht : t.stations = s.stations.map (Option.map f))
    (hf : ∀ st, (f st).slots = st.slots.map g) (hg : ∀ k, k.EstimateOk → (g k).EstimateOk) : EstimatesOk t := by
  rw [estimatesOk_iff_slots] at h ⊢
  intro u st hst
  have hmap : t.station? u = (s.station? u).map f := by
    unfold State.station?
    rw [ht, List.getElem?_map]
    cases s.stations[u]? <;> rfl
  obtain ⟨st', hst', rfl⟩ := Option.map_eq_some_iff.1 (hmap.symm.trans hst)
  exact (hf st') ▸ (h u st' hst').map hg

/-- A station record put in place of another. -/
theorem setStation (t : Nat) {o : Option Station} (ho : ∀ st, o = some st → SlotsOk st.slots) : EstimatesOk (s.setStation t o) := by
  rw [estimatesOk_iff_slots] at h ⊢
  intro u st hst
  unfold State.station? State.setStation at hst
  rw [List.getElem?_set] at hst
  split_ifs at hst with hu hlt
  · exact ho st hst
  · cases hst
  · exact h u st hst

end EstimatesOk

end Sys2Proof.Machine
end

section
namespace Sys2Proof.Machine.FillEstimation

/-! ### The list's requests and a band change in the gauges -/

@[simp] theorem gauges_downgradeRequest (s : State) (c h : Nat) : gauges (s.downgradeRequest c h) = gauges s := by
  unfold State.downgradeRequest
  split
  · rfl
  · split <;> rfl

@[simp] theorem gauges_removalRequest (s : State) (c h : Nat) : gauges (s.removalRequest c h) = gauges s := by
  unfold State.removalRequest
  split
  · rfl
  · split <;> rfl

@[simp] theorem gauges_bandRequests (s : State) (c : Nat) (old : Option Band) (new : Band) (h : Nat) :
    gauges (s.bandRequests c old new h) = gauges s := by
  unfold State.bandRequests
  dsimp only
  split_ifs <;> simp

theorem gauges_changeBand {s : State} {c : Nat} {k : Container} (hk : s.container? c = some k) (x : Setup) (old : Option Band) (new : Band) :
    gauges (s.changeBand c x old new) = gauges (s.updContainer c (rebanded x old new)) := by
  rw [changeBand_eq hk, gauges_bandRequests]
  rfl

end Sys2Proof.Machine.FillEstimation

namespace Sys2Proof.Machine

open FillEstimation

/-! ### The gate of a measurement request (R31) -/

/-- A request that the scanner takes names a container with a latched setup. -/
theorem State.hasLatched_of_passed {s : State} {c : Nat} {verify : Bool} (h : s.requestResult c verify = .passed) : s.hasLatched c = true := by
  unfold State.requestResult at h
  split at h
  · cases h
  · next k hk =>
    rw [State.hasLatched_eq hk]
    split_ifs at h with hgate
    exact Option.isSome_iff_ne_none.2 fun hl => hgate (.inr (Option.isNone_iff_eq_none.2 hl))

theorem State.hasLatched_of_gauges {s t : State} (h : gauges t = gauges s) : t.hasLatched = s.hasLatched := by
  funext c
  have hread : ∀ u : State, u.hasLatched c = (gauges u c).any fun g => g.1.isSome := fun u => by
    unfold State.hasLatched gauges
    cases u.container? c <;> rfl
  rw [hread, hread, h]

/-- A measurement request leaves the latched setups. -/
theorem State.hasLatched_requestMeasurement (s : State) (c d : Nat) (tag : Option VerifyTag) :
    (s.requestMeasurement c tag).hasLatched d = s.hasLatched d := by
  unfold State.requestMeasurement
  split
  · rfl
  · rfl
  all_goals exact State.hasLatched_updContainer s c d fun _ => rfl

namespace EstimatesOk

variable {s : State} (h : EstimatesOk s) (c : Nat)
include h

/-! ### The estimator keeps every estimate sound -/

theorem endFlight : EstimatesOk (s.endFlight c) := h.updEst c (fun _ he => { he with }) rfl

/-- A measurement that ends in a rejected sample (R36). -/
theorem rejectSample {k : Container} (hk : s.container? c = some k) (hl : k.latched.isSome = true) :
    EstimatesOk ((s.endFlight c).rejectSample c) := by
  have hcount : min 255 (k.est.rejected + 1) ≤ 255 := min_le_left _ _
  have hlatched : s.hasLatched c = true := (State.hasLatched_eq hk).trans hl
  rw [rejectSample_endFlight hk rfl]
  split
  · refine of_gauges (h.updContainer fun k' hk' hok => ?_) (gauges_raiseAt _ _ _ _)
    exact hok.of_latched (State.hasLatched_eq hk' ▸ hlatched) rfl rfl { hok.sound with rejected_le := hcount }
  · exact h.updContainer fun k' hk' hok =>
      hok.of_latched (State.hasLatched_eq hk' ▸ hlatched) rfl rfl { hok.sound with rejected_le := hcount }

/-- A measurement that ends in an accepted sample (R48). -/
theorem acceptSample {k : Container} {x : Setup} (hk : s.container? c = some k) (hx : k.latched = some x) (d q : Nat) (tag : Option VerifyTag) :
    EstimatesOk ((s.endFlight c).acceptSample c x k.est d q tag) := by
  refine of_gauges (h.updContainer fun k' hk' hok => ?_) (gauges_acceptSample hk x d q tag)
  obtain rfl : k = k' := Option.some.inj (hk.symm.trans hk')
  exact hok.of_latched (by simp [hx]) rfl rfl (hok.sound.sampled (hok.inRange hx) tag d _)

theorem takeEcho (echo : Echo) : EstimatesOk (s.takeEcho c echo).1 := by
  unfold State.takeEcho
  split
  · exact h
  · next k hk =>
    split
    · exact h
    · exact h.endFlight c
    · next fl x hfl hx =>
      have hl := (h c k hk).latched_of_flight hfl
      dsimp only
      split_ifs
      · exact h.endFlight c
      · split
        · exact h.rejectSample c hk hl
        · split_ifs
          · exact h.rejectSample c hk hl
          · exact h.acceptSample c hk hx _ _ _

theorem takeEchoTimeout : EstimatesOk (s.takeEchoTimeout c).1 := by
  unfold State.takeEchoTimeout
  split
  · exact h
  · next k hk =>
    split
    · exact h
    · next fl hfl =>
      split
      · exact h.endFlight c
      · exact h.rejectSample c hk ((h c k hk).latched_of_flight hfl)

/-- A change from one numbered band to another (R57). -/
theorem changeBand {k : Container} (hk : s.container? c = some k) (hl : k.latched.isSome = true) (x : Setup) {b : Band}
    (hb : k.est.band = some b) (new : Band) : EstimatesOk (s.changeBand c x (some b) new) := by
  refine of_gauges (h.updContainer fun k' hk' hok => ?_) (gauges_changeBand hk x (some b) new)
  obtain rfl : k = k' := Option.some.inj (hk.symm.trans hk')
  have hknown : k.est.smoothed ≠ none := fun hs => by simp [hok.sound.unknown_iff.1 hs] at hb
  exact hok.of_latched hl rfl rfl (hok.sound.banded x new hknown)

/-- The credit-driven evaluation (R55) keeps a sound estimate and the latched setup. -/
theorem evaluateCredit {k : Container} (hk : s.container? c = some k) (hl : k.latched.isSome = true) (x : Setup) :
    EstimatesOk (s.evaluateCredit c x k.est) ∧ (s.evaluateCredit c x k.est).hasLatched c = true := by
  have hlatched : s.hasLatched c = true := (State.hasLatched_eq hk).trans hl
  unfold State.evaluateCredit
  split
  · exact ⟨h, hlatched⟩
  · next b hb =>
    split
    · refine ⟨h.changeBand c hk hl x hb _, ?_⟩
      rw [State.hasLatched_of_gauges (gauges_changeBand hk x _ _)]
      exact (State.hasLatched_updContainer s c c (f := rebanded x (some b) _) fun _ => rfl).trans hlatched
    · exact ⟨h, hlatched⟩

/-- A deposit credit (R42). -/
theorem credit (w : Nat) : EstimatesOk (s.credit c w) := by
  unfold State.credit
  split
  · exact h
  · next k hk =>
    split
    · exact h
    · next x hx =>
      have hadded : EstimatesOk (s.updEst c (Estimator.addDeposit x w)) :=
        h.updEst_of_latched (by rw [State.hasLatched_eq hk, hx]; rfl) fun k _ hs => hs.addDeposit x w
      have hk' : (s.updEst c (Estimator.addDeposit x w)).container? c = some { k with est := k.est.addDeposit x w } :=
        container?_updContainer_self hk _
      obtain ⟨hevaluated, hl⟩ := hadded.evaluateCredit c hk' (by simp [hx]) x
      exact hevaluated.updEst_of_latched hl fun _ _ he => { he with }

theorem requestMeasurement (tag : Option VerifyTag) : EstimatesOk (s.requestMeasurement c tag) := by
  unfold State.requestMeasurement
  split
  · exact h
  · exact h
  · exact h.updEst c (fun _ he => { he with }) rfl
  · exact h.updContainer fun k _ hk => hk.remeasured rfl rfl id id fun hm => by simp [hm]
  · next hpassed =>
    exact h.updContainer fun k hc hk =>
      hk.of_latched (State.hasLatched_eq hc ▸ State.hasLatched_of_passed hpassed) rfl rfl hk.sound

/-- The measurement-started notice reaches containers with a marker, which have a latched setup (R13, R31). -/
theorem measurementStarted (hl : s.hasLatched c = true) : EstimatesOk (s.measurementStarted c) :=
  h.updContainer fun _ hc hk => hk.of_latched (State.hasLatched_eq hc ▸ hl) rfl rfl { hk.sound with }

theorem startSchedule : EstimatesOk s.startSchedule := by
  have hstep : ∀ d ∈ s.containersInUse.filter s.hasLatched, ∀ u : State, (EstimatesOk u ∧ u.hasLatched = s.hasLatched) →
      EstimatesOk ((u.requestMeasurement d none).updEst d fun e => { e with periodic := some u.tuning.interval }) ∧
        State.hasLatched ((u.requestMeasurement d none).updEst d fun e => { e with periodic := some u.tuning.interval }) = s.hasLatched := by
    rintro d hd u ⟨hu, hsame⟩
    have hrequested : (u.requestMeasurement d none).hasLatched = s.hasLatched :=
      (funext fun e => State.hasLatched_requestMeasurement u d e none).trans hsame
    have hl : (u.requestMeasurement d none).hasLatched d = true := hrequested ▸ (List.mem_filter.1 hd).2
    exact ⟨(hu.requestMeasurement d none).updEst_of_latched hl fun _ _ he => { he with },
      Eq.trans (funext fun e => by unfold State.updEst; exact State.hasLatched_updContainer _ d e fun _ => rfl) hrequested⟩
  exact (forEach_induction (P := fun u => EstimatesOk u ∧ u.hasLatched = s.hasLatched) hstep ⟨h, rfl⟩).1

end EstimatesOk

end Sys2Proof.Machine
end

section
namespace Sys2Proof.Machine.FillEstimation

/-! ### Outcomes, seating checks and hatch control in the gauges -/

/-- Of an outcome's steps, the first alone reaches the estimator (R144, R147). -/
theorem gauges_finish (s : State) (op : Operation) (o : LiftOutcome) :
    gauges (s.finish op o) = gauges (s.releaseVerification op.container) := by
  have hround : ∀ u : State, gauges { u with round := u.round.map (Round.countOutcome o) } = gauges u := fun _ => rfl
  unfold State.finish
  dsimp only
  rw [gauges_postAt, gauges_withPattern _ _ fun s => gauges_freeOperation s _ _, gauges_listOutcome]
  split <;> simp [hround]

@[simp] theorem gauges_seatingTest (s : State) (c : Nat) (acc : PerContact Acceptance) : gauges (s.seatingTest c acc) = gauges s := by
  have hchecked : gauges (s.updContainer c fun k => { k with seatingCheck := false }) = gauges s := gauges_updContainer fun _ => rfl
  unfold State.seatingTest
  split
  · rfl
  · dsimp only
    split_ifs <;> simp [hchecked]

@[simp] theorem gauges_hatchOffline (s : State) (c : Nat) : gauges (s.hatchOffline c) = gauges s := by
  unfold State.hatchOffline
  split
  · rfl
  · split <;> simp

@[simp] theorem gauges_cancelForce (s : State) (c : Nat) : gauges (s.cancelForce c) = gauges s := by
  unfold State.cancelForce
  split
  · rfl
  · split <;> simp

end Sys2Proof.Machine.FillEstimation

namespace Sys2Proof.Machine

open FillEstimation

namespace EstimatesOk

variable {s : State} (h : EstimatesOk s) (c t : Nat)
include h

/-! ### The emptying controller keeps every estimate sound -/

theorem releaseVerification : EstimatesOk (s.releaseVerification c) :=
  h.updContainer fun _ _ hk => hk.remeasured rfl rfl (fun hs => { hs with }) (fun hf => by simp [hf, Estimator.fresh]) fun hm => by simp [hm]

theorem finish (op : Operation) (o : LiftOutcome) : EstimatesOk (s.finish op o) :=
  (h.releaseVerification _).of_gauges (gauges_finish s op o)

theorem endOperation (o : LiftOutcome) : EstimatesOk (s.endOperation c o) := by
  unfold State.endOperation
  split
  · exact h
  · next op _ =>
    dsimp only
    split
    · exact (h.finish op o).each fun d u hu => hu.of_gauges (gauges_exitTest u d)
    · exact h.finish op o

theorem afterAnswer : EstimatesOk (s.afterAnswer c) := by
  unfold State.afterAnswer
  split
  · split
    · exact h.endOperation c _
    · exact h
  · exact h

theorem takeAnswer (a : Answer) : EstimatesOk (s.takeAnswer c a) := by
  unfold State.takeAnswer
  split
  · exact h
  · split
    · split
      · exact h.afterAnswer c
      · have hnoted : ∀ f, EstimatesOk (s.updOp c f) := fun f => h.of_stations rfl
        dsimp only
        split
        · split
          · exact (hnoted _).endOperation c _
          · exact (hnoted _).afterAnswer c
        · exact (hnoted _).afterAnswer c
    · exact h

theorem answered (a : Option Answer) : EstimatesOk (s.answered c a) := by
  cases a with
  | none => exact h
  | some a => exact h.takeAnswer c a

theorem attempt : EstimatesOk (s.attempt c) := by
  unfold State.attempt
  split
  · exact h
  · have hrequested : ∀ f tag, EstimatesOk ((s.updOp c f).requestMeasurement c tag) := fun f tag =>
      requestMeasurement (h.of_gauges (gauges_updOp s c f)) c tag
    exact iteInduction (fun _ => (hrequested _ _).takeAnswer c _) fun _ => hrequested _ _

theorem enterReturned : EstimatesOk (s.enterReturned c) := by
  refine attempt (h.of_gauges ?_) c
  rw [gauges_withPattern _ _ fun s => gauges_updOp s c _, gauges_setLatch]

theorem opContacts (acc : PerContact Acceptance) : EstimatesOk (s.opContacts c acc) := by
  unfold State.opContacts
  split
  · split
    · split
      · exact h.of_gauges (gauges_exitTest s c)
      · exact h
    · split
      · exact h.of_gauges (gauges_withPattern _ _ fun s => gauges_updOp s c _)
      · exact h
    · split
      · exact h.enterReturned c
      · exact h
    · exact h
  · exact h

theorem emptyingContacts (acc : PerContact Acceptance) : EstimatesOk (s.emptyingContacts c acc) :=
  (h.opContacts c acc).of_gauges (gauges_seatingTest _ c acc)

theorem emptyingOffline : EstimatesOk (s.emptyingOffline t) := by
  refine h.each fun d u hu => ?_
  split
  · exact hu.endOperation d _
  · exact hu.endOperation d _
  · exact hu

theorem actuatorFaultNotice : EstimatesOk (s.actuatorFaultNotice c) := by
  unfold State.actuatorFaultNotice
  split
  · exact h.endOperation c _
  · exact h

/-! ### The admission controller keeps every estimate sound -/

theorem completeDeposit (r : HatchRecord) : EstimatesOk (s.completeDeposit c r) := by
  unfold State.completeDeposit
  split
  · next a _ => exact ((h.of_gauges (gauges_commit s a)).credit c a.weight).of_gauges (by simp)
  · split <;> exact (h.credit c 1).of_gauges (by simp)

theorem admissionContacts (acc : PerContact Acceptance) : EstimatesOk (s.admissionContacts c acc) := by
  unfold State.admissionContacts
  split
  · exact h
  · split
    · split
      · exact h.of_gauges (gauges_changeHatch s c _)
      · exact h.completeDeposit c _
      · exact h
    · exact h

/-! ### A reply keeps every estimate sound -/

theorem handContacts (acc : PerContact Acceptance) : EstimatesOk (s.handContacts c acc) := by
  unfold State.handContacts
  split
  · exact ((h.admissionContacts c acc).emptyingContacts c acc).of_gauges (by simp)
  · exact h

theorem handCard (id : Option CardId) : EstimatesOk (s.handCard c id) := by
  cases id with
  | none => exact h
  | some id => exact h.of_gauges (gauges_present s c id)

theorem handEcho (e : Option Echo) : EstimatesOk (s.handEcho c e) := by
  cases e with
  | none => exact h
  | some e => exact (h.takeEcho c e).answered c _

theorem handSlot (r : SlotReport) (acc : PerContact Acceptance) : EstimatesOk (s.handSlot c r acc) :=
  ((h.handContacts c acc).handCard c _).handEcho c _

omit h in
theorem handSlots (t i : Nat) (rs : List (SlotReport × PerContact Acceptance)) :
    ∀ {s : State}, EstimatesOk s → EstimatesOk (s.handSlots t i rs) := by
  induction rs generalizing i with
  | nil => exact id
  | cons r rs ih => exact fun h => ih (i + 1) (h.handSlot (4 * t + i) r.1 r.2)

theorem flagBreaches (bs : List Breach) : EstimatesOk (s.flagBreaches bs) :=
  h.each fun c _ hu => hu.updFlags c _

theorem setStatus (f : Station → StationStatus) : EstimatesOk (s.updStation t fun st => { st with status := f st }) :=
  h.updStation_of_slots t fun _ => rfl

theorem compare (before : StationStatus) (contactDriven : Bool) : EstimatesOk (s.compare t before contactDriven) := by
  unfold State.compare
  dsimp only
  split_ifs
  · exact h
  · exact ((h.setStatus t _).flagBreaches _).of_gauges (gauges_raise _ _ _ _ _ _)
  · exact h.setStatus t _

theorem takeInput (acc : PerInput Acceptance) (i : Input) : EstimatesOk (s.takeInput t acc i) := by
  unfold State.takeInput
  split
  · exact h
  · dsimp only
    split
    · refine of_gauges (s := State.updStation t _ s) ?_ (gauges_raise _ _ _ _ _ _)
      exact h.updStation_of_slots t fun _ => rfl
    · exact h

theorem takeInputs (acc : PerInput Acceptance) : EstimatesOk (s.takeInputs t acc) :=
  ((h.takeInput t acc .door).takeInput t acc .flood).takeInput t acc .aux

theorem markOnline : EstimatesOk (s.markOnline t) := by
  refine of_gauges (s := State.updStation t _ s) ?_ (gauges_post _ _ _ _ _)
  exact h.updStation_of_slots t fun _ => rfl

theorem onlineNotice : EstimatesOk (s.onlineNotice t) := by
  have hdeferred : EstimatesOk (s.updStation t fun st =>
      { st with slots := st.slots.map fun k => { k with settleHL := .deferred, settleLL := .deferred } }) :=
    h.updStation t fun st hst => hst.map fun k hk => hk.of_gauge rfl
  unfold State.onlineNotice
  dsimp only
  split
  · exact hdeferred
  · exact hdeferred.setStatus t _

/-- The filters take a reply without touching an estimate (R16). -/
theorem report (r : PollReport) : EstimatesOk (s.updStation t (Station.report r)) := by
  refine h.updStation t fun st hst i k hi hk => ?_
  obtain ⟨slot, k', _, hk', rfl⟩ := List.getElem?_zipWith_eq_some.1 hk
  exact (hst i k' hi hk').of_gauge rfl

theorem takeReply (st : Station) (r : PollReport) : EstimatesOk (s.takeReply t st r) := by
  have honline : EstimatesOk (if st.online then s else s.markOnline t) := by
    split
    · exact h
    · exact h.markOnline t
  have hstatus : ∀ {u : State} (matched : Bool), EstimatesOk u →
      EstimatesOk (if st.status = .suspended then u else u.updStation t fun st => { st with status := statusFor matched }) :=
    fun _ hu => iteInduction (fun _ => hu) fun _ => hu.setStatus t _
  have hnotice : ∀ {u : State}, EstimatesOk u → EstimatesOk (if st.online then u else u.onlineNotice t) :=
    fun hu => iteInduction (fun _ => hu) fun _ => hu.onlineNotice t
  refine of_gauges (hnotice (hstatus _ (takeInputs (compare (handSlots t 0 _ (honline.report t r)) t _ _) t _))) (gauges_endVisit _)

/-! ### Misses keep every estimate sound -/

theorem dropMarker : EstimatesOk (s.dropMarker c) := by
  unfold State.dropMarker
  split
  · exact h
  · refine answered (h.updContainer fun k _ hk => ?_) c _
    exact hk.remeasured rfl rfl id id fun _ => rfl

theorem estimatorOffline : EstimatesOk (s.estimatorOffline c) := by
  unfold State.estimatorOffline
  split
  · exact h
  · exact (h.endFlight c).answered c _

theorem monitorOffline : EstimatesOk (s.monitorOffline t) := by
  refine each (h.updStation t fun st hst => ?_) fun d u hu => hu.of_gauges (gauges_updParts u d _)
  exact hst.map fun k hk => hk.of_gauge rfl

theorem goOffline : EstimatesOk (s.goOffline t) := by
  have hcleared : EstimatesOk (((s.updStation t fun st =>
      { st with online := false, status := .suspended, flags := { st.flags with offline := true } }).post .stationOffline (some t) none
        .stationOffline).updStation t Station.clearFilters) := by
    refine updStation (of_gauges (s := State.updStation t _ s) ?_ (gauges_post _ _ _ _ _)) t fun st hst => ?_
    · exact h.updStation_of_slots t fun _ => rfl
    · exact hst.map fun k hk => hk.of_gauge rfl
  refine each (monitorOffline (emptyingOffline (each (each hcleared fun d u hu => ?_) fun d u hu => ?_) t) t) fun d u hu => ?_
  · exact hu.dropMarker d
  · exact hu.of_gauges (gauges_hatchOffline u d)
  · exact hu.estimatorOffline d

theorem miss (st : Station) : EstimatesOk (s.miss t st) := by
  have hcounted : EstimatesOk (s.updStation t fun st => { st with misses := min 3 (st.misses + 1) }) := h.updStation_of_slots t fun _ => rfl
  unfold State.miss
  dsimp only
  split_ifs
  · exact h
  · exact hcounted.goOffline t
  · exact hcounted

theorem missVisit : EstimatesOk s.missVisit := by
  unfold State.missVisit
  split
  · exact h
  · next t _ =>
    split
    · exact (h.miss t _).of_gauges (gauges_endVisit _)
    · exact h.of_gauges (gauges_endVisit _)

/-! ### A visit keeps every estimate sound -/

theorem visit (st : Station) : EstimatesOk (s.visit t st) := by
  have hstarted : ∀ {u : State}, EstimatesOk u → EstimatesOk (forEach (u.markedAt t) State.measurementStarted u) := by
    intro u hu
    have hmarked : ∀ d ∈ u.markedAt t, u.hasLatched d = true := by
      intro d hd
      have hmarker := (List.mem_filter.1 hd).2
      split at hmarker
      · next k hk =>
        obtain ⟨m, hm⟩ := Option.isSome_iff_exists.1 hmarker
        exact (State.hasLatched_eq hk).trans ((hu d k hk).latched_of_marker hm)
      · cases hmarker
    refine (forEach_induction (P := fun v => EstimatesOk v ∧ v.hasLatched = u.hasLatched) (fun d hd v hv => ?_) ⟨hu, rfl⟩).1
    obtain ⟨hok, hsame⟩ := hv
    refine ⟨hok.measurementStarted d (hsame ▸ hmarked d hd), Eq.trans (funext fun e => ?_) hsame⟩
    exact State.hasLatched_updContainer v d e fun _ => rfl
  have hsent : EstimatesOk { s with bus := { visiting := some t, last := some t, sent := st.visitFrames } } := h.of_stations rfl
  have hcleared : EstimatesOk (if st.needsAct then
      State.updStation t (fun st => { st with resend := false }) { s with bus := { visiting := some t, last := some t, sent := st.visitFrames } }
      else { s with bus := { visiting := some t, last := some t, sent := st.visitFrames } }) :=
    iteInduction (fun _ => hsent.updStation_of_slots t fun _ => rfl) fun _ => hsent
  exact iteInduction (fun _ => hstarted hcleared) fun _ => hcleared

theorem stationVisit : EstimatesOk s.stationVisit := by
  unfold State.stationVisit
  split
  · split
    · exact h.visit _ _
    · exact h
  · exact h

theorem pollReply (bytes : List Byte) : EstimatesOk (s.pollReply bytes) := by
  unfold State.pollReply
  split
  · exact h
  · split
    · exact h.of_gauges (gauges_endVisit s)
    · split
      · exact h.takeReply _ _ _
      · exact h.missVisit

end EstimatesOk

end Sys2Proof.Machine
end

section
namespace Sys2Proof.Machine

open FillEstimation

/-! ### Definitions, latching, the resets -/

/-- The slots of a station after a definition are fresh ones and redefined ones (R3). -/
theorem getElem?_slotsFor {fs : List Fraction} {ks : List Container} {i : Nat} {k : Container} (h : (slotsFor fs ks)[i]? = some k) :
    ∃ f, k = .fresh f ∨ ∃ k', ks[i]? = some k' ∧ k = k'.redefine f := by
  induction fs generalizing ks i with
  | nil => simp [slotsFor] at h
  | cons f fs ih =>
    rcases ks with _ | ⟨k', ks⟩ <;> rcases i with _ | i
    · exact ⟨f, .inl (Option.some.inj h).symm⟩
    · obtain ⟨f', hf'⟩ := ih (ks := []) (i := i) h
      exact ⟨f', by simpa using hf'⟩
    · exact ⟨f, .inr ⟨k', rfl, (Option.some.inj h).symm⟩⟩
    · exact ih (ks := ks) (i := i) h

theorem SlotsOk.slotsFor {slots : List Container} (h : SlotsOk slots) (fs : List Fraction) : SlotsOk (slotsFor fs slots) := by
  intro i k hi hk
  obtain ⟨f, rfl | ⟨k', hk', rfl⟩⟩ := getElem?_slotsFor hk
  · exact Container.estimateOk_fresh f
  · exact (h i k' hi hk').remeasured rfl rfl id id fun _ => rfl

/-- The latching notice at one container (R26): the pending setup, in range, becomes the latched one. -/
theorem Container.EstimateOk.latch {k : Container} (h : k.EstimateOk) : k.latch.EstimateOk := by
  obtain ⟨hlatched, hwritten, hsound, hnone⟩ := k.estimateOk_iff.1 h
  refine k.latch.estimateOk_iff.2 ⟨fun x hx => ?_, by simp [Container.latch], ?_, fun hn => ?_⟩
  · rcases Option.or_eq_some_iff.1 hx with hx | ⟨_, hx⟩
    · exact hwritten x hx
    · exact hlatched x hx
  · unfold Container.latch
    dsimp only
    split
    · split
      · exact { hsound.reinitialise with }
      · exact { hsound with }
    · exact { hsound with }
  · have hor : k.written.or k.latched = none := hn
    obtain ⟨hest, hmarker⟩ := hnone (Option.or_eq_none_iff.1 hor).2
    exact ⟨by simp [Container.latch, hor, hest, Estimator.fresh], hmarker⟩

theorem Container.EstimateOk.clockSet {k : Container} (h : k.EstimateOk) : k.clockSet.EstimateOk := by
  unfold Container.clockSet
  split
  · next hl =>
    have hcredited := h.sound.credited_le
    exact h.of_latched hl rfl rfl { h.sound with baseline_le := by rintro v ⟨⟩; exact hcredited }
  · exact h

namespace EstimatesOk

variable {s : State} (h : EstimatesOk s) (c t : Nat)
include h

/-! ### Timers and the clock -/

theorem tickTimers : EstimatesOk s.tickTimers :=
  h.mapContainers rfl (fun _ => rfl) fun _ hk =>
    hk.remeasured rfl rfl (fun hs => { hs with }) (fun hf => by simp [Container.tick, hf, Estimator.fresh, tickTimer]) id

theorem hourOf : EstimatesOk (s.hourOf c) := by
  unfold State.hourOf
  split
  · exact h
  · next x hx =>
    obtain ⟨k, hk, hl⟩ := Option.bind_eq_some_iff.1 hx
    refine of_gauges (h.updEst_of_latched ?_ fun _ _ he => he.stage4 x) (gauges_forecastEvaluation _ _ _)
    rw [State.hasLatched_eq hk, hl]; rfl

theorem hourBoundary : EstimatesOk s.hourBoundary := by
  unfold State.hourBoundary
  split
  · refine each ?_ fun c _ hu => hu.hourOf c
    exact h.of_stations rfl
  · exact h

theorem lampHoldExpiry : EstimatesOk (s.lampHoldExpiry c) := by
  unfold State.lampHoldExpiry
  split
  · exact h
  · refine of_gauges (h.of_gauges (gauges_changeImage s c _)) (gauges_updContainer fun _ => rfl)

theorem periodicExpiry : EstimatesOk (s.periodicExpiry c) := by
  unfold State.periodicExpiry
  split
  · exact h
  · next n hn =>
    obtain ⟨k, hk, hperiodic⟩ := Option.bind_eq_some_iff.1 hn
    refine requestMeasurement (h.updEst_of_latched ?_ fun _ _ he => { he with }) c none
    exact (State.hasLatched_eq hk).trans ((h c k hk).latched_of_periodic hperiodic)

theorem postDepositExpiry : EstimatesOk (s.postDepositExpiry c) := by
  unfold State.postDepositExpiry
  split
  · exact h
  · refine requestMeasurement ?_ c none
    exact h.updEst c (fun _ he => { he with }) rfl

theorem echoTimeout : EstimatesOk (s.echoTimeout c) := (h.takeEchoTimeout c).answered c _

theorem releaseWindowExpiry : EstimatesOk (s.releaseWindowExpiry c) := by
  unfold State.releaseWindowExpiry
  split
  · exact h
  · split
    · exact h.of_gauges (gauges_lockHatch s c _)
    · exact h

theorem depositTimerExpiry : EstimatesOk (s.depositTimerExpiry c) := by
  unfold State.depositTimerExpiry
  split
  · exact h
  · split
    · refine of_gauges (s := State.updContainer c _ s) ?_ (gauges_raiseAt _ _ _ _)
      exact h.updContainer fun _ _ hk => hk.remeasured rfl rfl id id id
    · exact h

theorem settleExpiry (a : Actuator) : EstimatesOk (s.settleExpiry c a) := by
  have hfaulted : ∀ k : Container, k.EstimateOk → (k.setFaulted a).EstimateOk := fun k hk => by cases a <;> exact hk.of_gauge rfl
  unfold State.settleExpiry
  split
  · exact h
  · dsimp only
    split
    · have hflagged : EstimatesOk ((s.updContainer c (Container.setFaulted a)).updFlags c fun f => { f with actuatorFault := true }) :=
        (h.updContainer fun k _ hk => hfaulted k hk).updFlags c _
      have hraised : ∀ body, EstimatesOk ((((s.updContainer c (Container.setFaulted a)).updFlags c fun f =>
          { f with actuatorFault := true }).blockRequest c .actuator).raiseAt .actuatorFault c body) :=
        fun body => hflagged.of_gauges (by simp)
      exact iteInduction (fun _ => (hraised _).actuatorFaultNotice c) fun _ => hraised _
    · exact h

/-! ### Resets and modes -/

omit h in
theorem reset : EstimatesOk State.reset := by
  intro c k hk
  have hstation : ∀ t, State.reset.station? t = none := fun t => by
    have : State.reset.stations = List.replicate 16 none := rfl
    rw [State.station?, this, List.getElem?_replicate]
    split <;> rfl
  simp [State.container?, hstation] at hk

/-- The blocks at a warm start: no measurement, no estimator timer and no marker is kept, S is (R27). -/
theorem warmBlocks : EstimatesOk s.warmBlocks :=
  h.mapContainers rfl (fun _ => rfl) fun _ hk =>
    hk.remeasured rfl rfl (fun hs => { hs with }) (fun hf => by simp [Container.warm, hf, Estimator.fresh]) fun _ => rfl

theorem warmStart : EstimatesOk s.warmStart := by
  have habandoned : EstimatesOk s.abandonActions := h.of_gauges (gauges_completeActions _)
  have hwarm : EstimatesOk s.abandonActions.warmBlocks.releaseClaims := habandoned.warmBlocks.of_stations rfl
  exact of_gauges (iteInduction (motive := EstimatesOk) (fun _ => hwarm) fun _ => hwarm.startSchedule) (gauges_post _ _ _ _ _)

theorem replySent (p : Port) : EstimatesOk (s.replySent p) := by
  unfold State.replySent
  split_ifs
  · exact h
  · exact h.warmStart
  · exact h.of_gauges (gauges_updPort s p _)

theorem cancelForces : EstimatesOk s.cancelForces := h.each fun c u hu => hu.of_gauges (gauges_cancelForce u c)

theorem leaveConfigureAt : EstimatesOk (s.leaveConfigureAt t) := by
  unfold State.leaveConfigureAt
  split
  · split
    · refine setStatus (h.each fun c u hu => ?_) t _
      exact hu.of_gauges (gauges_updContainer fun _ => rfl)
    · exact h
  · exact h

theorem leaveConfigure (target : Mode) : EstimatesOk (s.leaveConfigure target) := by
  have hmode : EstimatesOk { s with mode := target } := h.of_stations rfl
  have hlatched : EstimatesOk (forEach s.containersInUse (fun c => State.updContainer c Container.latch) { s with mode := target }) :=
    each hmode fun c u hu => hu.updContainer fun _ _ hk => hk.latch
  exact hlatched.startSchedule.each fun t _ hu => hu.leaveConfigureAt t

theorem enterConfigure : EstimatesOk s.enterConfigure := by
  have hforces : EstimatesOk (if s.mode = .supervise then s.cancelForces else s) :=
    iteInduction (fun _ => h.cancelForces) fun _ => h
  refine hforces.mapContainers rfl (fun _ => rfl) fun _ hk => ?_
  exact hk.remeasured rfl rfl (fun hs => { hs with }) (fun hf => by simp [Container.enterConfigure, hf, Estimator.fresh]) id

/-! ### Definitions -/

theorem dropContainers (n : Nat) : EstimatesOk (s.dropContainers t n) :=
  h.each fun c u hu => hu.of_gauges (gauges_updParts (u.unlist c) c _)

theorem removeStation : EstimatesOk (s.removeStation t) := by
  unfold State.removeStation State.abandonVisit
  exact iteInduction (motive := EstimatesOk) (fun _ => of_gauges ((h.dropContainers t 0).setStation t (by simp)) (gauges_endVisit _)) fun _ =>
    (h.dropContainers t 0).setStation t (by simp)

theorem defineStation (node : Nat) (fs : List Fraction) : EstimatesOk (s.defineStation t node fs) := by
  refine (h.dropContainers t fs.length).setStation t fun st hst => ?_
  obtain rfl := Option.some.inj hst
  rcases hold : s.station? t with _ | old
  · exact SlotsOk.slotsFor (slots := []) (fun _ _ _ hk => by simp at hk) fs
  · exact ((estimatesOk_iff_slots s).1 h t old hold).slotsFor fs

theorem setClock (day second : Nat) : EstimatesOk (s.setClock day second) := by
  refine each ?_ fun _ _ hu => hu.updContainer fun _ _ hk => hk.clockSet
  exact h.of_stations rfl

theorem changeMask (mask : Nat) : EstimatesOk (s.changeMask t mask) := by
  have hmasked : EstimatesOk (s.remask t mask) := h.each fun c u hu => hu.of_gauges (gauges_updContainer fun _ => rfl)
  exact each (hmasked.of_gauges (gauges_evaluate _ t)) fun c u hu => hu.of_gauges (gauges_followParts u c)

theorem abandonOperations : EstimatesOk s.abandonOperations := by
  refine h.each fun c u hu => ?_
  unfold State.abandonAtClose
  split
  · exact hu.finish _ _
  · exact hu

end EstimatesOk

end Sys2Proof.Machine
end

section
namespace Sys2Proof.Machine

open FillEstimation

namespace EstimatesOk

variable {s : State} (h : EstimatesOk s) (p : Port)
include h

/-! ### Taking a request keeps every estimate sound -/

theorem reply (kind : Byte) (code : ResultCode) (data : List Byte) : EstimatesOk (s.reply p kind code data) :=
  h.of_gauges (gauges_reply s p kind code data)

theorem receiverIdle : EstimatesOk (s.receiverIdle p) := h.of_gauges (gauges_updPort s p _)

theorem dropRemainder : EstimatesOk (s.dropRemainder p) := h.of_gauges (gauges_updPort s p _)

theorem noteActivity : EstimatesOk (s.noteActivity p) :=
  iteInduction (motive := EstimatesOk) (fun _ => h.of_gauges (gauges_updGrant s _)) fun _ => h

/-- A request keeps every estimate sound when its owner does (R181 to R184). -/
theorem takeRequest (kind : Byte) (f : Frame) {owner : State → State} (howner : ∀ {u : State}, EstimatesOk u → EstimatesOk (owner u)) :
    EstimatesOk (s.takeRequest p kind f owner) := by
  have hbusy : EstimatesOk (s.updPort p fun q => { q with receiver := .idle, busy := true }) := h.of_gauges (gauges_updPort s p _)
  unfold State.takeRequest
  split
  · exact h.receiverIdle p
  · dsimp only
    split
    · exact hbusy.reply p _ _ _
    · split
      · exact ((hbusy.noteActivity p).dropRemainder p).reply p _ _ _
      · exact howner (iteInduction (fun _ => hbusy.noteActivity p) fun _ => (hbusy.noteActivity p).dropRemainder p)

theorem onContainer (kind : Byte) (params : List Byte) {owner : Nat → Container → State → State}
    (howner : ∀ c k, EstimatesOk (owner c k s)) : EstimatesOk (s.onContainer p kind params owner) := by
  unfold State.onContainer
  split
  · exact howner _ _
  · exact h.reply p _ _ _
  · exact h.reply p _ _ _

/-! ### The directory, the watch list and the events -/

theorem beginEdit (kind : Byte) (count : Nat) (work : EditWork) : EstimatesOk (s.beginEdit p kind count work) := by
  unfold State.beginEdit
  split_ifs
  · exact h.reply p _ _ _
  · exact h.reply p _ _ _
  · exact h.of_gauges (gauges_updDirectory s _)

theorem afterStep (kind : Byte) (e : Edit) : EstimatesOk (s.afterStep kind e) := by
  unfold State.afterStep
  split
  · exact h.of_gauges (by simp)
  · exact h.of_gauges (gauges_updDirectory s _)

theorem putStep : EstimatesOk s.putStep := by
  unfold State.putStep
  split
  · refine afterStep ?_ _ _
    exact h.of_gauges (gauges_updDirectory s _)
  · exact h

theorem deleteStep : EstimatesOk s.deleteStep := by
  unfold State.deleteStep
  split
  · refine afterStep ?_ _ _
    exact h.of_gauges (gauges_updDirectory s _)
  · exact h

theorem cardGet (id : CardId) : EstimatesOk (s.cardGet p id) := by
  have hmoved : EstimatesOk (s.updDirectory (Directory.setCursor p (some id))) := h.of_gauges (gauges_updDirectory s _)
  unfold State.cardGet
  split
  · exact h.reply p _ _ _
  · dsimp only
    split <;> exact hmoved.reply p _ _ _

theorem cardNext (n : Nat) : EstimatesOk (s.cardNext p n) := by
  unfold State.cardNext
  split_ifs
  · exact h.reply p _ _ _
  · exact h.reply p _ _ _
  · dsimp only
    split
    · exact h.reply p _ _ _
    · exact h.of_gauges (by simp)

theorem watchSet (id : CardId) (code : Nat) : EstimatesOk (s.watchSet p id code) := by
  unfold State.watchSet
  split
  · exact h.reply p _ _ _
  · refine reply ?_ p _ _ _
    exact h.of_stations rfl

theorem watchClear (id : CardId) : EstimatesOk (s.watchClear p id) := by
  unfold State.watchClear
  split
  · refine reply ?_ p _ _ _
    exact h.of_stations rfl
  · exact h.reply p _ _ _

theorem setFractionRules (charged period : Nat) : EstimatesOk (s.setFractionRules p charged period) := by
  unfold State.setFractionRules
  split
  · exact h.reply p _ _ _
  · exact h.of_gauges (by simp)

theorem fetchEvents (n : Nat) : EstimatesOk (s.fetchEvents p n) := by
  unfold State.fetchEvents
  split
  · exact h.reply p _ _ _
  · refine reply ?_ p _ _ _
    exact h.of_stations rfl

theorem clearContainerFlags (set selection : Nat) : EstimatesOk (s.clearContainerFlags p set selection) := by
  unfold State.clearContainerFlags
  dsimp only
  split_ifs
  · exact h.reply p _ _ _
  · exact h.reply p _ _ _
  · exact reply (h.each fun c _ hu => hu.updFlags c _) p _ _ _

theorem clearStationFlags (set selection : Nat) : EstimatesOk (s.clearStationFlags p set selection) := by
  unfold State.clearStationFlags
  dsimp only
  split_ifs
  · exact h.reply p _ _ _
  · exact h.reply p _ _ _
  · refine reply (h.each fun t _ hu => ?_) p _ _ _
    exact hu.updStation_of_slots t fun _ => rfl

theorem clearFlags (params : List Byte) : EstimatesOk (s.clearFlags p params) := by
  unfold State.clearFlags
  split
  · exact h.clearContainerFlags p _ _
  · exact h.clearStationFlags p _ _
  · exact h.reply p _ _ _

/-! ### Ports, modes and the service port -/

theorem askRestart : EstimatesOk (s.askRestart p) := (h.reply p _ _ _).of_gauges (gauges_updPort _ p _)

theorem setMode (code : Nat) : EstimatesOk (s.setMode p code) := by
  have hmode : ∀ m, EstimatesOk { s with mode := m } := fun m => h.of_stations rfl
  unfold State.setMode
  split
  · exact h.reply p _ _ _
  · split
    · exact h.reply p _ _ _
    · split
      · split
        · exact h.reply p _ _ _
        · exact (h.leaveConfigure _).reply p _ _ _
      · split
        · exact h.reply p _ _ _
        · exact h.enterConfigure.reply p _ _ _
      · exact (hmode _).cancelForces.reply p _ _ _
      · exact (hmode _).reply p _ _ _

theorem continueReply : EstimatesOk (s.continueReply p) := by
  unfold State.continueReply
  split
  · exact h.reply p _ _ _
  · exact (h.dropRemainder p).reply p _ _ _

theorem endGrant : EstimatesOk s.endGrant := by
  unfold State.endGrant
  exact ((h.of_gauges (gauges_updGrant s _)).dropRemainder .service).of_gauges (gauges_updDirectory _ _)

theorem tryUnlock (given : BitVec 64) : EstimatesOk (s.tryUnlock p given) := by
  unfold State.tryUnlock
  split
  · exact h.reply p _ _ _
  · split
    · exact h.reply p _ _ _
    · split_ifs <;> exact h.of_gauges (by simp)

theorem serviceClear : EstimatesOk (s.serviceClear p) := h.of_gauges (by simp [State.serviceClear])

theorem serviceCode (params : List Byte) : EstimatesOk (s.serviceCode p params) := h.of_gauges (by simp [State.serviceCode])

/-! ### Measurement, hatch control, list and rounds -/

theorem measureNow (params : List Byte) : EstimatesOk (s.measureNow p params) := by
  refine h.onContainer p _ _ fun c _ => ?_
  split_ifs
  · exact h.reply p _ _ _
  · exact h.reply p _ _ _
  · exact (h.requestMeasurement c none).reply p _ _ _

theorem forceLock (params : List Byte) : EstimatesOk (s.forceLock p params) := by
  refine h.onContainer p _ _ fun c k => ?_
  split
  · exact h.reply p _ _ _
  · exact h.of_gauges (by simp [State.beginForceLock])

theorem forceRelease (params : List Byte) : EstimatesOk (s.forceRelease p params) := by
  refine h.onContainer p _ _ fun c k => ?_
  split_ifs <;> exact h.of_gauges (by simp [State.beginForceRelease])

theorem forceCancel (params : List Byte) : EstimatesOk (s.forceCancel p params) :=
  h.onContainer p _ _ fun c _ => h.of_gauges (by simp)

theorem listAdd (params : List Byte) : EstimatesOk (s.listAdd p params) := h.onContainer p _ _ fun c _ => h.of_gauges (by simp)

theorem listRemove (params : List Byte) : EstimatesOk (s.listRemove p params) := by
  refine h.onContainer p _ _ fun c _ => ?_
  split
  · exact h.reply p _ _ _
  · split <;> exact h.of_gauges (by simp)

theorem roundOpen (k selector set : Nat) : EstimatesOk (s.roundOpen p k selector set) := by
  have hopened : ∀ stations, EstimatesOk (s.openRound stations k) := fun _ => h.of_stations rfl
  unfold State.roundOpen
  exact iteInduction (fun _ => h.reply p _ _ _) fun _ => iteInduction (fun _ => h.reply p _ _ _) fun _ =>
    iteInduction (fun _ => h.reply p _ _ _) fun _ => iteInduction (fun _ => h.reply p _ _ _) fun _ => (hopened _).reply p _ _ _

theorem roundClose : EstimatesOk (s.roundClose p) := by
  unfold State.roundClose
  split_ifs
  · exact h.reply p _ _ _
  · exact h.reply p _ _ _
  · refine reply ?_ p _ _ _
    exact h.abandonOperations.of_stations rfl

theorem liftStart (params : List Byte) : EstimatesOk (s.liftStart p params) := by
  refine h.onContainer p _ _ fun c _ => ?_
  split <;> exact h.of_gauges (by simp)

theorem unblock (params : List Byte) : EstimatesOk (s.unblock p params) := by
  refine h.onContainer p _ _ fun c k => reply (h.of_gauges ?_) p _ _ _
  exact gauges_updContainer fun _ => rfl

/-! ### Setting up -/

theorem stationDefine (t node count : Nat) (codes : List Byte) : EstimatesOk (s.stationDefine p t node count codes) := by
  unfold State.stationDefine
  refine iteInduction (fun _ => h.reply p _ _ _) fun _ => iteInduction (fun _ => (h.removeStation t).reply p _ _ _) fun _ =>
    iteInduction (fun _ => h.reply p _ _ _) fun _ => ?_
  split
  · exact h.reply p _ _ _
  · exact iteInduction (fun _ => h.reply p _ _ _) fun _ => (h.defineStation t node _).reply p _ _ _

theorem stationRead (t : Nat) : EstimatesOk (s.stationRead p t) := by
  unfold State.stationRead
  split_ifs <;> exact h.reply p _ _ _

/-- A setup that is stored as pending is in range (R24). -/
theorem containerSetup (params : List Byte) : EstimatesOk (s.containerSetup p params) := by
  refine h.onContainer p _ _ fun c _ => ?_
  split
  · next hfits =>
    refine reply (h.updContainer fun k _ hk => ?_) p _ _ _
    obtain ⟨hlatched, _, hsound, hnone⟩ := k.estimateOk_iff.1 hk
    refine (Container.estimateOk_iff _).2 ⟨hlatched, ?_, hsound, hnone⟩
    rintro x ⟨⟩
    exact (Bool.and_eq_true_iff.1 hfits).2
  · exact h.reply p _ _ _

theorem containerRead (params : List Byte) : EstimatesOk (s.containerRead p params) := h.onContainer p _ _ fun _ _ => h.reply p _ _ _

theorem clockRequest (day second : Nat) : EstimatesOk (s.clockRequest p day second) := by
  unfold State.clockRequest
  split
  · exact h.reply p _ _ _
  · exact (h.setClock day second).reply p _ _ _

theorem setInputs (params : List Byte) : EstimatesOk (s.setInputs p params) := by
  unfold State.setInputs
  split
  · exact h.reply p _ _ _
  · split
    · refine reply ?_ p _ _ _
      exact h.updStation_of_slots _ fun _ => rfl
    · exact h.reply p _ _ _

theorem setMask (t mask : Nat) : EstimatesOk (s.setMask p t mask) := by
  unfold State.setMask
  split
  · exact h.reply p _ _ _
  · split
    · exact h.reply p _ _ _
    · exact (h.changeMask t mask).reply p _ _ _

theorem bindEvent (cls enable priority action : Nat) : EstimatesOk (s.bindEvent p cls enable priority action) := by
  unfold State.bindEvent
  split
  · split
    · exact h.reply p _ _ _
    · refine reply ?_ p _ _ _
      exact h.of_stations rfl
  · exact h.reply p _ _ _

theorem tune (pairs : List (Nat × Nat)) : EstimatesOk (s.tune p pairs) := by
  unfold State.tune
  split
  · exact h.reply p _ _ _
  · refine reply ?_ p _ _ _
    exact h.of_stations rfl

end EstimatesOk

/-! ### O8: every command keeps every estimate sound -/

/-- Every command keeps every estimate sound. -/
theorem EstimatesOk.exec {s t : State} (h : EstimatesOk s) (i : Instr) (hi : exec i s = .next t) : EstimatesOk t := by
  cases i <;> obtain rfl := Host.Outcome.next.inj hi
  case coldStart => exact EstimatesOk.reset.of_stations rfl
  case warmStart => exact h.warmStart
  case clockTick => exact h.tickTimers.of_stations rfl
  case hourBoundary => exact h.hourBoundary
  case stationVisit => exact h.stationVisit
  case pollReply bytes => exact h.pollReply bytes
  case pollReplyInvalid => exact h.missVisit
  case busByteGapTimeout => exact h.missVisit
  case pollReplyTimeout => exact h.missVisit
  case lampHoldExpiry c => exact h.lampHoldExpiry c
  case periodicTimerExpiry c => exact h.periodicExpiry c
  case postDepositTimerExpiry c => exact h.postDepositExpiry c
  case echoTimeout c => exact h.echoTimeout c
  case releaseWindowExpiry c => exact h.releaseWindowExpiry c
  case depositTimerExpiry c => exact h.depositTimerExpiry c
  case liftWaitExpiry c => exact iteInduction (fun _ => h.endOperation c _) fun _ => h
  case liftedTimerExpiry c => exact iteInduction (fun _ => h.endOperation c _) fun _ => h
  case attemptTimerExpiry c => exact iteInduction (fun _ => h.attempt c) fun _ => h
  case settleWindowExpiry c a => exact h.settleExpiry c a
  case confirmationWindowExpiry place c => exact h.of_gauges (gauges_completeActions _)
  case cardPut p f => exact h.takeRequest p _ f fun hu => hu.beginEdit p _ _ _
  case cardPutRecordStep => exact h.putStep
  case cardDelete p f => exact h.takeRequest p _ f fun hu => hu.beginEdit p _ _ _
  case cardDeleteRecordStep => exact h.deleteStep
  case cardGet p f => exact h.takeRequest p _ f fun hu => hu.cardGet p _
  case cardNext p f => exact h.takeRequest p _ f fun hu => hu.cardNext p _
  case watchSet p f => exact h.takeRequest p _ f fun hu => hu.watchSet p _ _
  case watchClear p f => exact h.takeRequest p _ f fun hu => hu.watchClear p _
  case watchList p f => exact h.takeRequest p _ f fun hu => hu.reply p _ _ _
  case fractionRules p f => exact h.takeRequest p _ f fun hu => hu.setFractionRules p _ _
  case stationDefine p f => exact h.takeRequest p _ f fun hu => hu.stationDefine p _ _ _ _
  case stationRead p f => exact h.takeRequest p _ f fun hu => hu.stationRead p _
  case containerSetup p f => exact h.takeRequest p _ f fun hu => hu.containerSetup p _
  case containerRead p f => exact h.takeRequest p _ f fun hu => hu.containerRead p _
  case measureNow p f => exact h.takeRequest p _ f fun hu => hu.measureNow p _
  case setClock p f => exact h.takeRequest p _ f fun hu => hu.clockRequest p _ _
  case forceLock p f => exact h.takeRequest p _ f fun hu => hu.forceLock p _
  case forceRelease p f => exact h.takeRequest p _ f fun hu => hu.forceRelease p _
  case forceCancel p f => exact h.takeRequest p _ f fun hu => hu.forceCancel p _
  case listAdd p f => exact h.takeRequest p _ f fun hu => hu.listAdd p _
  case listRemove p f => exact h.takeRequest p _ f fun hu => hu.listRemove p _
  case listRead p f => exact h.takeRequest p _ f fun hu => hu.reply p _ _ _
  case roundOpen p f => exact h.takeRequest p _ f fun hu => hu.roundOpen p _ _ _
  case roundClose p f => exact h.takeRequest p _ f fun hu => hu.roundClose p
  case liftStart p f => exact h.takeRequest p _ f fun hu => hu.liftStart p _
  case unblock p f => exact h.takeRequest p _ f fun hu => hu.unblock p _
  case integrityMask p f => exact h.takeRequest p _ f fun hu => hu.setMask p _ _
  case inputSetup p f => exact h.takeRequest p _ f fun hu => hu.setInputs p _
  case eventBinding p f => exact h.takeRequest p _ f fun hu => hu.bindEvent p _ _ _ _
  case eventsFetch p f => exact h.takeRequest p _ f fun hu => hu.fetchEvents p _
  case flagsClear p f => exact h.takeRequest p _ f fun hu => hu.clearFlags p _
  case tuning p f => exact h.takeRequest p _ f fun hu => hu.tune p _
  case ident p f => exact h.takeRequest p _ f fun hu => hu.reply p _ _ _
  case status p f => exact h.takeRequest p _ f fun hu => hu.reply p _ _ _
  case restart p f => exact h.takeRequest p _ f fun hu => hu.askRestart p
  case setModeConfigure p f => exact h.takeRequest p _ f fun hu => hu.setMode p _
  case setModeOperate p f => exact h.takeRequest p _ f fun hu => hu.setMode p _
  case setModeSupervise p f => exact h.takeRequest p _ f fun hu => hu.setMode p _
  case continueSegment p f => exact h.takeRequest p _ f fun hu => hu.continueReply p
  case unknownRequestKind p kind f => exact h.takeRequest p _ f fun hu => hu.reply p _ _ _
  case busyFrameDiscard p body => exact h.receiverIdle p
  case frameLengthInvalid p n => exact h.receiverIdle p
  case frameGapTimeout p => exact h.receiverIdle p
  case replySent p => exact h.replySent p
  case unlock p f => exact h.takeRequest p _ f fun hu => hu.tryUnlock p _
  case serviceEnd p f => exact h.takeRequest p _ f fun hu => (hu.reply p _ _ _).endGrant
  case inactivityTimerExpiry => exact iteInduction (fun _ => h.endGrant) fun _ => h
  case serviceClear p f => exact h.takeRequest p _ f fun hu => hu.serviceClear p
  case serviceCode p f => exact h.takeRequest p _ f fun hu => hu.serviceCode p _

end Sys2Proof.Machine

namespace Sys2Proof.Machine.FillEstimation

/-- Settles O8: an idle step keeps the state, and every other step is a command's. -/
theorem estimatesKept : Obligations.EstimatesKept := by
  unfold Obligations.EstimatesKept
  intro s t h hstep
  unfold step at hstep
  split at hstep
  · exact Host.Outcome.next.inj hstep ▸ h
  · next i rest _ =>
    have htaken : EstimatesOk { s with pending := rest } := h.of_stations rfl
    exact htaken.exec i hstep

end Sys2Proof.Machine.FillEstimation
end

section
namespace Sys2Proof.Machine.CardDirectory

/-! ### The ledger: what the accounts of cards are read from -/

/-- What the accounts of cards are read from: the card records, the mode, and the hatch records slot by slot. -/
structure Ledger where
  cards : List Card
  mode : Mode
  /-- The number of station records, defined or not. -/
  records : Nat
  /-- The hatch records of a station's slots; `none` for a station that is not defined. -/
  hatches : Nat → Option (List HatchRecord)

/-- The ledger of a state. -/
def ledger (s : State) : Ledger where
  cards := s.directory.cards
  mode := s.mode
  records := s.stations.length
  hatches t := (s.station? t).map fun st => st.slots.map Container.hatch

/-- The hatch record of container `c`, if it is in use. -/
def Ledger.hatch? (l : Ledger) (c : Nat) : Option HatchRecord := (l.hatches (c / 4)).bind fun hs => hs[c % 4]?

/-- The weight units that a hatch holds for a card. -/
def weightOn (id : CardId) (h : HatchRecord) : Nat :=
  match h.admission with
  | some a => if a.card = id then a.weight else 0
  | none => 0

/-- The weight units that a container's hatch holds for a card. -/
def Ledger.weightAt (l : Ledger) (id : CardId) (c : Nat) : Nat := ((l.hatch? c).map (weightOn id)).getD 0

/-- The weight units that the open admissions of a card hold. -/
def Ledger.openWeight (l : Ledger) (id : CardId) : Nat := ∑ c ∈ Finset.range (4 * l.records), l.weightAt id c

/-- Change the hatch record of a container in use. -/
def Ledger.setHatch (c : Nat) (f : HatchRecord → HatchRecord) (l : Ledger) : Ledger :=
  { l with hatches := fun t => if t = c / 4 then (l.hatches t).map fun hs => hs.modify (c % 4) f else l.hatches t }

theorem hatch?_ledger (s : State) (c : Nat) : (ledger s).hatch? c = (s.container? c).map Container.hatch := by
  unfold Ledger.hatch? ledger State.container?
  rcases hst : s.station? (c / 4) with _ | st <;> simp [hst]

theorem container?_isSome (s : State) (c : Nat) : (s.container? c).isSome = ((ledger s).hatch? c).isSome := by
  rw [hatch?_ledger, Option.isSome_map]

/-- States with one ledger have the same containers in use. -/
theorem container?_isSome_congr {s t : State} (h : ledger t = ledger s) (c : Nat) : (t.container? c).isSome = (s.container? c).isSome := by
  rw [container?_isSome, container?_isSome, h]

theorem hatch?_setHatch (l : Ledger) (c d : Nat) (f : HatchRecord → HatchRecord) :
    (l.setHatch c f).hatch? d = if d = c then (l.hatch? c).map f else l.hatch? d := by
  unfold Ledger.hatch? Ledger.setHatch
  dsimp only
  by_cases h4 : d / 4 = c / 4
  · rw [if_pos h4, h4]
    rcases l.hatches (c / 4) with _ | hs
    · simp
    · by_cases h : d = c
      · subst h; simp
      · have hm : ¬c % 4 = d % 4 := by omega
        simp [h, hm]
  · have h : ¬d = c := fun e => h4 (by rw [e])
    rw [if_neg h4, if_neg h]

/-! ### Sound ledgers -/

/-- The accounts of a ledger are sound. -/
structure Ledger.Sound (l : Ledger) : Prop where
  ascending : l.cards.Pairwise fun a b => a.id < b.id
  reserved_eq : ∀ r ∈ l.cards, r.reserved = l.openWeight r.id
  within : ∀ r ∈ l.cards, r.allowance < 255 → r.used + r.reserved ≤ r.allowance
  weight_pos : ∀ r ∈ l.cards, ∀ w, r.weight = some w → 1 ≤ w
  admission_ok : ∀ c h a, l.hatch? c = some h → h.admission = some a →
    (∃ r ∈ l.cards, r.id = a.card) ∧ h.state ≠ .locked ∧ 1 ≤ a.weight
  locked : l.mode = .configure → ∀ c h, l.hatch? c = some h → h.state = .locked
  slots_le : ∀ t hs, l.hatches t = some hs → hs.length ≤ 4
  defined_lt : ∀ t, (l.hatches t).isSome = true → t < l.records

theorem mem_containersAt {s : State} {t c : Nat} (hslots : ∀ t st, s.station? t = some st → st.slots.length ≤ 4) :
    c ∈ s.containersAt t ↔ c / 4 = t ∧ (s.container? c).isSome = true := by
  unfold State.containersAt State.container?
  rcases hst : s.station? t with _ | st
  · simp only [List.not_mem_nil, false_iff, not_and]
    rintro rfl
    simp [hst]
  · have hlen := hslots t st hst
    simp only [List.mem_map, List.mem_range]
    constructor
    · rintro ⟨i, hi, rfl⟩
      have hdiv : (4 * t + i) / 4 = t := by omega
      have hmod : (4 * t + i) % 4 = i := by omega
      exact ⟨hdiv, by simp [hdiv, hst, hmod, hi]⟩
    · rintro ⟨rfl, hsome⟩
      exact ⟨c % 4, by simpa [hst] using hsome, by omega⟩

theorem mem_containersInUse {s : State} {c : Nat} (hslots : ∀ t st, s.station? t = some st → st.slots.length ≤ 4) :
    c ∈ s.containersInUse ↔ (s.container? c).isSome = true := by
  have hdefined : (s.container? c).isSome = true → c / 4 ∈ s.definedStations := by
    intro h
    have hst : (s.station? (c / 4)).isSome = true := by
      unfold State.container? at h
      split at h
      · next st hst => simp [hst]
      · cases h
    refine List.mem_filter.2 ⟨List.mem_range.2 ?_, hst⟩
    by_contra hge
    simp [State.station?, List.getElem?_eq_none (Nat.not_lt.1 hge)] at hst
  simp only [State.containersInUse, List.mem_flatMap, mem_containersAt hslots]
  exact ⟨fun ⟨_, _, _, h⟩ => h, fun h => ⟨c / 4, hdefined h, rfl, h⟩⟩

theorem containersInUse_nodup {s : State} (hslots : ∀ t st, s.station? t = some st → st.slots.length ≤ 4) : s.containersInUse.Nodup := by
  unfold State.containersInUse
  refine List.nodup_flatMap.2 ⟨fun t _ => ?_, (List.nodup_range.filter _).imp fun {t u} htu => ?_⟩
  · unfold State.containersAt
    split
    · exact List.nodup_range.map fun i j h => by simpa using h
    · exact List.nodup_nil
  · intro c hc hc'
    exact htu (((mem_containersAt hslots).1 hc).1.symm.trans ((mem_containersAt hslots).1 hc').1)

theorem lt_of_hatch? {s : State} {c : Nat} (h : ((ledger s).hatch? c).isSome = true) : c < 4 * s.stations.length := by
  by_contra hge
  have hst : s.station? (c / 4) = none := by
    unfold State.station?
    rw [List.getElem?_eq_none (by omega)]
    rfl
  simp [Ledger.hatch?, ledger, hst] at h

/-- The open weight of a card is read from the ledger. -/
theorem openWeight_ledger {s : State} (hslots : ∀ t st, s.station? t = some st → st.slots.length ≤ 4) (id : CardId) :
    (ledger s).openWeight id = s.openWeight id := by
  have hsum : s.openWeight id = (s.containersInUse.map ((ledger s).weightAt id)).sum := by
    unfold State.openWeight
    congr 2
    funext c
    unfold Ledger.weightAt
    rw [hatch?_ledger]
    rcases s.container? c with _ | k <;> rfl
  rw [hsum, Ledger.openWeight, ← List.sum_toFinset _ (containersInUse_nodup hslots)]
  refine (Finset.sum_subset (fun c hc => ?_) fun c _ hc => ?_).symm
  · rw [List.mem_toFinset, mem_containersInUse hslots, container?_isSome] at hc
    exact Finset.mem_range.2 (lt_of_hatch? hc)
  · rw [List.mem_toFinset, mem_containersInUse hslots, container?_isSome, Bool.not_eq_true, Option.isSome_eq_false_iff,
      Option.isNone_iff_eq_none] at hc
    simp [Ledger.weightAt, hc]

theorem accountsOk_iff (s : State) : AccountsOk s ↔ (ledger s).Sound := by
  have hcard : ∀ id, (s.card? id).isSome = true ↔ ∃ r ∈ s.directory.cards, r.id = id := by simp [State.card?]
  have hslots : (∀ t hs, (ledger s).hatches t = some hs → hs.length ≤ 4) ↔ ∀ t st, s.station? t = some st → st.slots.length ≤ 4 := by
    constructor
    · intro h t st hst
      simpa using h t (st.slots.map Container.hatch) (by simp [ledger, hst])
    · rintro h t hs hhs
      obtain ⟨st, hst, rfl⟩ := Option.map_eq_some_iff.1 hhs
      simpa using h t st hst
  have hdefined : ∀ t, ((ledger s).hatches t).isSome = true → t < s.stations.length := by
    intro t ht
    by_contra hge
    simp [ledger, State.station?, List.getElem?_eq_none (Nat.not_lt.1 hge)] at ht
  constructor
  · rintro ⟨hasc, hacc, hweight, hadm, hlocked, hlen⟩
    refine ⟨hasc, fun r hr => (openWeight_ledger hlen r.id) ▸ (hacc r hr).1, fun r hr => (hacc r hr).2, hweight, ?_, ?_, hslots.2 hlen,
      hdefined⟩
    · intro c h a hh ha
      rw [hatch?_ledger] at hh
      obtain ⟨k, hk, rfl⟩ := Option.map_eq_some_iff.1 hh
      obtain ⟨hsome, hstate, hw⟩ := hadm c k a hk ha
      exact ⟨(hcard a.card).1 hsome, hstate, hw⟩
    · intro hmode c h hh
      rw [hatch?_ledger] at hh
      obtain ⟨k, hk, rfl⟩ := Option.map_eq_some_iff.1 hh
      exact hlocked hmode c k hk
  · rintro ⟨hasc, hreserved, hwithin, hweight, hadm, hlocked, hlen, _⟩
    have hlen := hslots.1 hlen
    refine ⟨hasc, fun r hr => ⟨(hreserved r hr).trans (openWeight_ledger hlen r.id), hwithin r hr⟩, hweight, ?_, ?_, hlen⟩
    · intro c k a hk ha
      obtain ⟨hsome, hstate, hw⟩ := hadm c k.hatch a (by rw [hatch?_ledger, hk]; rfl) ha
      exact ⟨(hcard a.card).2 hsome, hstate, hw⟩
    · intro hmode c k hk
      exact hlocked hmode c k.hatch (by rw [hatch?_ledger, hk]; rfl)

end Sys2Proof.Machine.CardDirectory
end

section
namespace Sys2Proof.Machine.CardDirectory

/-! ### What a hatch change does to the open weights -/

theorem Ledger.Sound.lt_of_hatch? {l : Ledger} (h : l.Sound) {c : Nat} {r : HatchRecord} (hr : l.hatch? c = some r) : c < 4 * l.records := by
  have hlt : c / 4 < l.records := h.defined_lt _ (by
    rcases hhs : l.hatches (c / 4) with _ | hs
    · simp [Ledger.hatch?, hhs] at hr
    · rfl)
  omega

theorem Ledger.weightAt_of_hatch? {l : Ledger} {c : Nat} {r : HatchRecord} (hr : l.hatch? c = some r) (id : CardId) :
    l.weightAt id c = weightOn id r := by
  simp [Ledger.weightAt, hr]

theorem Ledger.openWeight_setHatch {l : Ledger} (h : l.Sound) {c : Nat} {r : HatchRecord} (hr : l.hatch? c = some r)
    (f : HatchRecord → HatchRecord) (id : CardId) :
    (l.setHatch c f).openWeight id + weightOn id r = l.openWeight id + weightOn id (f r) := by
  have hmem : c ∈ Finset.range (4 * l.records) := Finset.mem_range.2 (h.lt_of_hatch? hr)
  have hchanged : (l.setHatch c f).hatch? c = some (f r) := by rw [hatch?_setHatch, if_pos rfl, hr]; rfl
  have hothers : ∑ d ∈ (Finset.range (4 * l.records)).erase c, (l.setHatch c f).weightAt id d =
      ∑ d ∈ (Finset.range (4 * l.records)).erase c, l.weightAt id d :=
    Finset.sum_congr rfl fun d hd => by
      unfold Ledger.weightAt
      rw [hatch?_setHatch, if_neg (Finset.ne_of_mem_erase hd)]
  have hbefore := Finset.add_sum_erase _ (l.weightAt id) hmem
  have hafter := Finset.add_sum_erase _ ((l.setHatch c f).weightAt id) hmem
  rw [Ledger.weightAt_of_hatch? hr] at hbefore
  rw [Ledger.weightAt_of_hatch? hchanged, hothers] at hafter
  change (∑ d ∈ Finset.range (4 * l.records), (l.setHatch c f).weightAt id d) + _ = (∑ d ∈ Finset.range (4 * l.records), l.weightAt id d) + _
  omega

theorem Ledger.hatches_setHatch_length {l : Ledger} {c t : Nat} {f : HatchRecord → HatchRecord} {hs : List HatchRecord}
    (hhs : (l.setHatch c f).hatches t = some hs) : ∃ hs', l.hatches t = some hs' ∧ hs.length = hs'.length := by
  unfold Ledger.setHatch at hhs
  dsimp only at hhs
  split at hhs
  · obtain ⟨hs', hhs', rfl⟩ := Option.map_eq_some_iff.1 hhs
    exact ⟨hs', hhs', List.length_modify ..⟩
  · exact ⟨hs, hhs, rfl⟩

/-- Ascending ids name one record each. -/
theorem card_eq_of_id {cards : List Card} (h : cards.Pairwise fun a b => a.id < b.id) {r r' : Card} (hr : r ∈ cards) (hr' : r' ∈ cards)
    (hid : r.id = r'.id) : r = r' := by
  have hnodup : (cards.map Card.id).Nodup := List.pairwise_map.2 (h.imp fun {a b} hab => BitVec.ne_of_lt hab)
  exact List.inj_on_of_nodup_map hnodup hr hr' hid

namespace Ledger.Sound

variable {l : Ledger} (h : l.Sound)
include h

/-! ### Changes of the card records -/

/-- A card with an admission open at some hatch holds weight. -/
theorem one_le_openWeight {c : Nat} {r : HatchRecord} {a : Admission} (hr : l.hatch? c = some r) (ha : r.admission = some a) :
    1 ≤ l.openWeight a.card := by
  have hw := (h.admission_ok c r a hr ha).2.2
  calc 1 ≤ weightOn a.card r := by simp [weightOn, ha, hw]
    _ = l.weightAt a.card c := (Ledger.weightAt_of_hatch? hr _).symm
    _ ≤ l.openWeight a.card :=
      Finset.single_le_sum (f := l.weightAt a.card) (fun _ _ => Nat.zero_le _) (Finset.mem_range.2 (h.lt_of_hatch? hr))

/-- Card records put in place of others: sound by themselves, and with a record for every card that has an admission open. -/
theorem withCards {cards : List Card} (hasc : cards.Pairwise fun a b => a.id < b.id)
    (hreserved : ∀ r ∈ cards, r.reserved = l.openWeight r.id) (hwithin : ∀ r ∈ cards, r.allowance < 255 → r.used + r.reserved ≤ r.allowance)
    (hweight : ∀ r ∈ cards, ∀ w, r.weight = some w → 1 ≤ w)
    (hkept : ∀ r ∈ l.cards, 1 ≤ l.openWeight r.id → ∃ r' ∈ cards, r'.id = r.id) : ({ l with cards := cards } : Ledger).Sound := by
  refine { h with ascending := hasc, reserved_eq := hreserved, within := hwithin, weight_pos := hweight, admission_ok := ?_ }
  intro c r a hr ha
  obtain ⟨⟨r₁, hr₁, hid⟩, hstate, hw⟩ := h.admission_ok c r a hr ha
  obtain ⟨r₂, hr₂, hid₂⟩ := hkept r₁ hr₁ (hid ▸ h.one_le_openWeight hr ha)
  exact ⟨⟨r₂, hr₂, hid₂.trans hid⟩, hstate, hw⟩

/-- A change of card records that neither raises what is used nor touches what is reserved. -/
theorem amend {g : Card → Card}
    (hg : ∀ r ∈ l.cards,
      (g r).id = r.id ∧ (g r).reserved = r.reserved ∧ (g r).weight = r.weight ∧ (g r).allowance = r.allowance ∧ (g r).used ≤ r.used) :
    ({ l with cards := l.cards.map g } : Ledger).Sound := by
  refine h.withCards (List.pairwise_map.2 (h.ascending.imp_of_mem fun {a b} ha hb hab => ?_)) ?_ ?_ ?_ ?_
  · rwa [(hg a ha).1, (hg b hb).1]
  · refine List.forall_mem_map.2 fun r hr => ?_
    obtain ⟨hid, hreserved, _⟩ := hg r hr
    rw [hid, hreserved, h.reserved_eq r hr]
  · refine List.forall_mem_map.2 fun r hr => ?_
    obtain ⟨_, hreserved, _, hallowance, hused⟩ := hg r hr
    have := h.within r hr
    omega
  · refine List.forall_mem_map.2 fun r hr => ?_
    obtain ⟨_, _, hweight, _⟩ := hg r hr
    exact hweight.symm ▸ h.weight_pos r hr
  · exact fun r hr _ => ⟨g r, List.mem_map_of_mem hr, (hg r hr).1⟩

theorem eq_of_id {r r' : Card} (hr : r ∈ l.cards) (hr' : r' ∈ l.cards) (hid : r.id = r'.id) : r = r' := card_eq_of_id h.ascending hr hr' hid

/-! ### Changes of a hatch -/

theorem weightOn_le_reserved {c : Nat} {hr : HatchRecord} (hc : l.hatch? c = some hr) {r : Card} (hmem : r ∈ l.cards) :
    weightOn r.id hr ≤ r.reserved := by
  rw [h.reserved_eq r hmem, ← Ledger.weightAt_of_hatch? hc]
  exact Finset.single_le_sum (f := l.weightAt r.id) (fun _ _ => Nat.zero_le _) (Finset.mem_range.2 (h.lt_of_hatch? hc))

/-- A hatch change with the entries it brings into the accounts: what each card has reserved moves with the weight that the hatch holds for it. -/
theorem post {c : Nat} {before : HatchRecord} (hc : l.hatch? c = some before) {f : HatchRecord → HatchRecord} {g : Card → Card}
    (hid : ∀ r, (g r).id = r.id) (hweight : ∀ r, (g r).weight = r.weight)
    (hreserved : ∀ r ∈ l.cards, weightOn r.id before ≤ r.reserved →
      (g r).reserved + weightOn r.id before = r.reserved + weightOn r.id (f before))
    (hwithin : ∀ r ∈ l.cards, weightOn r.id before ≤ r.reserved → (r.allowance < 255 → r.used + r.reserved ≤ r.allowance) →
      (g r).allowance < 255 → (g r).used + (g r).reserved ≤ (g r).allowance)
    (hadm : ∀ a, (f before).admission = some a → (∃ r ∈ l.cards, r.id = a.card) ∧ (f before).state ≠ .locked ∧ 1 ≤ a.weight)
    (hmode : l.mode = .configure → (f before).state = .locked) : (({ l with cards := l.cards.map g } : Ledger).setHatch c f).Sound := by
  have hget : ∀ {d : Nat} {x : HatchRecord}, (({ l with cards := l.cards.map g } : Ledger).setHatch c f).hatch? d = some x →
      (d = c ∧ x = f before) ∨ l.hatch? d = some x := by
    intro d x hx
    rw [hatch?_setHatch] at hx
    split_ifs at hx with hd
    · have hb : ({ l with cards := l.cards.map g } : Ledger).hatch? c = some before := hc
      rw [hb] at hx
      exact .inl ⟨hd, (Option.some.inj hx).symm⟩
    · exact .inr hx
  have hopen : ∀ id, (({ l with cards := l.cards.map g } : Ledger).setHatch c f).openWeight id + weightOn id before =
      l.openWeight id + weightOn id (f before) := fun id => Ledger.openWeight_setHatch h hc f id
  refine ⟨List.pairwise_map.2 (h.ascending.imp fun {a b} hab => by rwa [hid a, hid b]), ?_, ?_, ?_, ?_, ?_, ?_, ?_⟩
  · refine List.forall_mem_map.2 fun r hr => ?_
    have := hreserved r hr (h.weightOn_le_reserved hc hr)
    have := h.reserved_eq r hr
    have := hopen r.id
    rw [hid r]
    omega
  · exact List.forall_mem_map.2 fun r hr => hwithin r hr (h.weightOn_le_reserved hc hr) (h.within r hr)
  · exact List.forall_mem_map.2 fun r hr => (hweight r).symm ▸ h.weight_pos r hr
  · intro d x a hx ha
    have hexists : (∃ r ∈ l.cards, r.id = a.card) ∧ x.state ≠ .locked ∧ 1 ≤ a.weight := by
      rcases hget hx with ⟨rfl, rfl⟩ | hx
      · exact hadm a ha
      · exact h.admission_ok d x a hx ha
    obtain ⟨⟨r, hr, hcard⟩, hrest⟩ := hexists
    exact ⟨⟨g r, List.mem_map_of_mem hr, (hid r).trans hcard⟩, hrest⟩
  · intro hm d x hx
    rcases hget hx with ⟨rfl, rfl⟩ | hx
    · exact hmode hm
    · exact h.locked hm d x hx
  · intro t hs hhs
    obtain ⟨hs', hhs', hlen⟩ := Ledger.hatches_setHatch_length hhs
    exact hlen ▸ h.slots_le t hs' hhs'
  · intro t ht
    obtain ⟨hs, hhs⟩ := Option.isSome_iff_exists.1 ht
    obtain ⟨hs', hhs', _⟩ := Ledger.hatches_setHatch_length hhs
    exact h.defined_lt t (by rw [show l.hatches t = some hs' from hhs']; rfl)

/-- A hatch change that leaves the admission and no hatch LOCKED with one. -/
theorem moveHatch {c : Nat} {before : HatchRecord} (hc : l.hatch? c = some before) {f : HatchRecord → HatchRecord}
    (hadm : (f before).admission = before.admission) (hstate : (f before).state = .locked ↔ before.state = .locked) :
    (l.setHatch c f).Sound := by
  have hsame : ∀ id, weightOn id (f before) = weightOn id before := fun id => by unfold weightOn; rw [hadm]
  have := h.post hc (f := f) (g := id) (fun _ => rfl) (fun _ => rfl) (fun r _ _ => by rw [hsame]; rfl) (fun r _ _ hr => hr)
    (fun a ha => by
      obtain ⟨hexists, hne, hw⟩ := h.admission_ok c before a hc (hadm ▸ ha)
      exact ⟨hexists, fun hl => hne (hstate.1 hl), hw⟩)
    (fun hm => hstate.2 (h.locked hm c before hc))
  simpa using this

theorem admission_eq_none {c : Nat} {before : HatchRecord} (hc : l.hatch? c = some before) (hlocked : before.state = .locked) :
    before.admission = none :=
  Option.eq_none_iff_forall_ne_some.2 fun a ha => (h.admission_ok c before a hc ha).2.1 hlocked

/-- A hatch that serves no card is left with none. -/
theorem vacate {c : Nat} {before : HatchRecord} (hc : l.hatch? c = some before) {f : HatchRecord → HatchRecord}
    (hnone : before.admission = none) (hadm : (f before).admission = none)
    (hstate : (f before).state = .locked ∨ before.state ≠ .locked ∨ l.mode ≠ .configure) : (l.setHatch c f).Sound := by
  have := h.post hc (f := f) (g := id) (fun _ => rfl) (fun _ => rfl) (fun r _ _ => by simp [weightOn, hnone, hadm]) (fun r _ _ hr => hr)
    (fun a ha => by rw [hadm] at ha; cases ha) (fun hm => by
      rcases hstate with hs | hs | hs
      · exact hs
      · exact absurd (h.locked hm c before hc) hs
      · exact absurd hm hs)
  simpa using this

/-- The admission of a hatch ends, LOCKED, and its card gives the weight up (R72, R73): `f` is what that does to the card's record. -/
theorem settle {c : Nat} {before : HatchRecord} {a : Admission} (hc : l.hatch? c = some before) {f : HatchRecord → HatchRecord} {g : Card → Card}
    (ha : before.admission = some a) (hadm : (f before).admission = none) (hstate : (f before).state = .locked)
    (hg : ∀ r, (g r).id = r.id ∧ (g r).weight = r.weight ∧ (g r).allowance = r.allowance ∧ (g r).reserved = r.reserved - a.weight ∧
      (g r).used ≤ r.used + a.weight) :
    (({ l with cards := l.cards.map fun r => if r.id == a.card then g r else r } : Ledger).setHatch c f).Sound := by
  have hbefore : ∀ id, weightOn id before = if a.card = id then a.weight else 0 := fun id => by simp [weightOn, ha]
  have hafter : ∀ id, weightOn id (f before) = 0 := fun id => by simp [weightOn, hadm]
  refine h.post hc (fun r => ?_) (fun r => ?_) (fun r _ hle => ?_) (fun r _ hle hwithin => ?_) (fun a ha => by rw [hadm] at ha; cases ha)
    fun _ => hstate
  all_goals
    obtain ⟨hid, hweight, hallowance, hreserved, hused⟩ := hg r
    by_cases hr : r.id = a.card
  · simp [hr, hid]
  · simp [hr]
  · simp [hr, hweight]
  · simp [hr]
  · simp [hbefore, hafter, hr] at hle ⊢
    omega
  · simp [hbefore, hafter, hr, Ne.symm hr]
  · simp [hbefore, hr] at hle ⊢
    omega
  · simpa [hr] using hwithin

/-- A LOCKED hatch is RELEASED to a card, whose record holds the weight (R71, R96): `g` is what that does to the record. -/
theorem grant {c : Nat} {before : HatchRecord} {a : Admission} (hc : l.hatch? c = some before) {f : HatchRecord → HatchRecord} {g : Card → Card}
    (hlocked : before.state = .locked) (hadm : (f before).admission = some a) (hstate : (f before).state ≠ .locked)
    (hmode : l.mode ≠ .configure) (hcard : ∃ r ∈ l.cards, r.id = a.card) (hw : 1 ≤ a.weight)
    (hg : ∀ r, (g r).id = r.id ∧ (g r).weight = r.weight)
    (hheld : ∀ r ∈ l.cards, r.id = a.card →
      (g r).reserved = r.reserved + a.weight ∧ ((g r).allowance < 255 → (g r).used + (g r).reserved ≤ (g r).allowance)) :
    (({ l with cards := l.cards.map fun r => if r.id == a.card then g r else r } : Ledger).setHatch c f).Sound := by
  have hnone := h.admission_eq_none hc hlocked
  have hbefore : ∀ id, weightOn id before = 0 := fun id => by simp [weightOn, hnone]
  have hafter : ∀ id, weightOn id (f before) = if a.card = id then a.weight else 0 := fun id => by simp [weightOn, hadm]
  refine h.post hc (fun r => ?_) (fun r => ?_) (fun r hmem _ => ?_) (fun r hmem _ hwithin => ?_) (fun b hb => ?_) fun hm => absurd hm hmode
  case refine_5 =>
    obtain rfl := Option.some.inj (hadm.symm.trans hb)
    exact ⟨hcard, hstate, hw⟩
  all_goals by_cases hr : r.id = a.card
  · simp [hr, hg r]
  · simp [hr]
  · simp [hr, hg r]
  · simp [hr]
  · simp [hbefore, hafter, hr, hheld r hmem hr]
  · simp [hbefore, hafter, hr, Ne.symm hr]
  · simpa [hr] using (hheld r hmem hr).2
  · simpa [hr] using hwithin

/-! ### Ledgers with every hatch LOCKED, and the same change of every hatch -/

omit h in
/-- With no admission open, nothing is reserved. -/
theorem of_vacant {l : Ledger} (hasc : l.cards.Pairwise fun a b => a.id < b.id) (hreserved : ∀ r ∈ l.cards, r.reserved = 0)
    (hwithin : ∀ r ∈ l.cards, r.allowance < 255 → r.used ≤ r.allowance) (hweight : ∀ r ∈ l.cards, ∀ w, r.weight = some w → 1 ≤ w)
    (hlocked : ∀ c x, l.hatch? c = some x → x.state = .locked ∧ x.admission = none)
    (hslots : ∀ t hs, l.hatches t = some hs → hs.length ≤ 4) (hdefined : ∀ t, (l.hatches t).isSome = true → t < l.records) : l.Sound := by
  have hopen : ∀ id, l.openWeight id = 0 := fun id => Finset.sum_eq_zero fun c _ => by
    unfold Ledger.weightAt
    rcases hx : l.hatch? c with _ | x
    · rfl
    · simp [weightOn, (hlocked c x hx).2]
  refine ⟨hasc, fun r hr => (hreserved r hr).trans (hopen _).symm, fun r hr => ?_, hweight, fun c x a hx ha => ?_,
    fun _ c x hx => (hlocked c x hx).1, hslots, hdefined⟩
  · have := hwithin r hr
    have := hreserved r hr
    omega
  · rw [(hlocked c x hx).2] at ha
    cases ha

/-- The mode of the part changes; CONFIGURE is entered with every hatch LOCKED (R191). -/
theorem withMode (m : Mode) (hlocked : m = .configure → ∀ c x, l.hatch? c = some x → x.state = .locked) :
    ({ l with mode := m } : Ledger).Sound := { h with locked := hlocked }

/-- A change of every hatch record that touches neither state nor admission. -/
theorem mapHatches {l' : Ledger} {g : HatchRecord → HatchRecord} (hcards : l'.cards = l.cards) (hmode : l'.mode = l.mode)
    (hrecords : l'.records = l.records) (hhatches : ∀ t, l'.hatches t = (l.hatches t).map (List.map g))
    (hg : ∀ x, (g x).state = x.state ∧ (g x).admission = x.admission) : l'.Sound := by
  have hget : ∀ c, l'.hatch? c = (l.hatch? c).map g := fun c => by
    unfold Ledger.hatch?
    rw [hhatches]
    rcases l.hatches (c / 4) with _ | hs <;> simp
  have hopen : ∀ id, l'.openWeight id = l.openWeight id := fun id => by
    unfold Ledger.openWeight
    rw [hrecords]
    refine Finset.sum_congr rfl fun c _ => ?_
    unfold Ledger.weightAt
    rw [hget, Option.map_map]
    congr 2
    funext x
    simp [weightOn, (hg x).2]
  have hback : ∀ {c x}, l'.hatch? c = some x → ∃ y, l.hatch? c = some y ∧ x.state = y.state ∧ x.admission = y.admission := by
    intro c x hx
    obtain ⟨y, hy, rfl⟩ := Option.map_eq_some_iff.1 ((hget c).symm.trans hx)
    exact ⟨y, hy, hg y⟩
  refine ⟨hcards ▸ h.ascending, hcards ▸ fun r hr => (h.reserved_eq r hr).trans (hopen _).symm, hcards ▸ h.within, hcards ▸ h.weight_pos, ?_, ?_,
    ?_, ?_⟩
  · intro c x a hx ha
    obtain ⟨y, hy, hstate, hadm⟩ := hback hx
    rw [hcards, hstate]
    exact h.admission_ok c y a hy (hadm ▸ ha)
  · intro hm c x hx
    obtain ⟨y, hy, hstate, _⟩ := hback hx
    exact hstate.trans (h.locked (hmode ▸ hm) c y hy)
  · intro t hs hhs
    rw [hhatches] at hhs
    obtain ⟨hs', hhs', rfl⟩ := Option.map_eq_some_iff.1 hhs
    rw [List.length_map]
    exact h.slots_le t hs' hhs'
  · intro t ht
    rw [hhatches, Option.isSome_map] at ht
    exact hrecords ▸ h.defined_lt t ht

end Ledger.Sound
end Sys2Proof.Machine.CardDirectory
end

section
namespace Sys2Proof.Machine.CardDirectory

/-! ### The accounts of one card (R70 to R73) -/

section
variable (r : Card) (now w : Nat)

/-- What is used of a card's allowance in the current period (R70). -/
def usedNow (r : Card) (now : Nat) : Nat := if r.period = now then r.used else 0

theorem usedNow_le : usedNow r now ≤ r.used := by
  unfold usedNow
  split_ifs <;> omega

theorem rollover_eq : r.rollover now = { r with used := usedNow r now, period := now } := by
  unfold Card.rollover usedNow
  split_ifs with hperiod
  · rw [← hperiod]
  · rfl

/-- The tests of a reservation, in their order (R71). -/
theorem reserveRefusal_rollover : (r.rollover now).reserveRefusal w =
    if 4 < r.reserved + w then some .multiple
    else if r.allowance < 255 ∧ r.allowance < usedNow r now + r.reserved + w then some .quota else none := by
  rw [rollover_eq]
  rfl

theorem reserve_of_refused {code : RefusalCode} (h : (r.rollover now).reserveRefusal w = some code) : r.reserve now w = r.rollover now := by
  simp [Card.reserve, h]

theorem reserve_of_granted (h : (r.rollover now).reserveRefusal w = none) :
    r.reserve now w = { r.rollover now with reserved := r.reserved + w } := by
  have hreserved : (r.rollover now).reserved = r.reserved := by rw [rollover_eq]
  simp [Card.reserve, h, hreserved]

theorem reserve_weight : (r.reserve now w).weight = r.weight := by
  rcases hrefusal : (r.rollover now).reserveRefusal w with _ | code
  · rw [reserve_of_granted r now w hrefusal, rollover_eq]
  · rw [reserve_of_refused r now w hrefusal, rollover_eq]

theorem one_le_weightOf (h : ∀ v, r.weight = some v → 1 ≤ v) : 1 ≤ r.weightOf := by
  unfold Card.weightOf
  rcases hw : r.weight with _ | v
  · exact le_rfl
  · exact h v hw

theorem commit_eq (charged : Bool) : r.commit now w charged =
    { r with used := if charged then min 254 (usedNow r now + w) else usedNow r now, period := now, reserved := r.reserved - w } := by
  simp [Card.commit, rollover_eq]

end

/-- Settles O31, from the equation of each account function. -/
theorem cardAccounts : Obligations.CardAccounts := by
  unfold Obligations.CardAccounts
  rintro r now w used rfl
  change r.rollover now = { r with used := usedNow r now, period := now } ∧ _
  refine ⟨rollover_eq r now, fun hmany => ?_, fun hfew hlimited hover => ?_, fun hfew hwithin => ?_, ?_, ?_, rfl⟩
  · have hrefused : (r.rollover now).reserveRefusal w = some .multiple := by rw [reserveRefusal_rollover, if_pos hmany]
    exact ⟨hrefused, (reserve_of_refused r now w hrefused).trans (rollover_eq r now)⟩
  · have hrefused : (r.rollover now).reserveRefusal w = some .quota := by
      rw [reserveRefusal_rollover, if_neg (by omega), if_pos ⟨hlimited, hover⟩]
    exact ⟨hrefused, (reserve_of_refused r now w hrefused).trans (rollover_eq r now)⟩
  · have hgranted : (r.rollover now).reserveRefusal w = none := by
      rw [reserveRefusal_rollover, if_neg (by omega), if_neg fun h => Nat.not_lt.2 (hwithin h.1) h.2]
    exact ⟨hgranted, (reserve_of_granted r now w hgranted).trans (by rw [rollover_eq]; rfl)⟩
  · exact commit_eq r now w true
  · exact commit_eq r now w false

/-! ### Card records in range (R65) -/

/-- A card record is in range. -/
structure CardOk (r : Card) : Prop where
  used_le : r.used ≤ 254
  reserved_le : r.reserved ≤ 4
  weight_ok : ∀ w, r.weight = some w → 1 ≤ w ∧ w ≤ 4
  crew : r.cls = .crew → r.weight = none

/-- The card records are within the directory, ascending and in range. -/
structure CardsOk (cards : List Card) : Prop where
  length_le : cards.length ≤ 8192
  ascending : cards.Pairwise fun a b => a.id < b.id
  each : ∀ r ∈ cards, CardOk r

theorem tablesOk_iff (s : State) : TablesOk s ↔
    CardsOk s.directory.cards ∧ s.watch.length ≤ 16 ∧ s.watch.Pairwise fun a b => a.id ≠ b.id := by
  constructor
  · rintro ⟨hlen, hasc, heach, hwatch, hdistinct⟩
    refine ⟨⟨hlen, hasc, fun r hr => ?_⟩, hwatch, hdistinct⟩
    obtain ⟨hused, hreserved, hweight, hcrew⟩ := heach r hr
    exact ⟨hused, hreserved, hweight, hcrew⟩
  · rintro ⟨⟨hlen, hasc, heach⟩, hwatch, hdistinct⟩
    exact ⟨hlen, hasc, fun r hr => ⟨(heach r hr).used_le, (heach r hr).reserved_le, (heach r hr).weight_ok, (heach r hr).crew⟩, hwatch, hdistinct⟩

/-- A change of a card record that keeps its id and its ranges. -/
structure Steady (g : Card → Card) : Prop where
  id_eq : ∀ r, (g r).id = r.id
  ok : ∀ r, CardOk r → CardOk (g r)

theorem CardsOk.map {cards : List Card} (h : CardsOk cards) {g : Card → Card} (hg : Steady g) : CardsOk (cards.map g) := by
  refine ⟨by simpa using h.length_le, List.pairwise_map.2 (h.ascending.imp fun {a b} hab => ?_), List.forall_mem_map.2 fun r hr => hg.ok r (h.each r hr)⟩
  rwa [hg.id_eq, hg.id_eq]

theorem Steady.at_id {g : Card → Card} (hg : Steady g) (id : CardId) : Steady fun r => if r.id == id then g r else r :=
  ⟨fun r => by split <;> simp [hg.id_eq], fun r hr => by
    split
    · exact hg.ok r hr
    · exact hr⟩

theorem tablesOk_updCard {s : State} (h : TablesOk s) (id : CardId) {g : Card → Card} (hg : Steady g) : TablesOk (s.updCard id g) := by
  rw [tablesOk_iff] at h ⊢
  exact ⟨h.1.map (hg.at_id id), h.2⟩

theorem steady_rollover (now : Nat) : Steady (Card.rollover now) := by
  refine ⟨fun r => by rw [rollover_eq], fun r hr => ?_⟩
  rw [rollover_eq]
  exact { hr with used_le := (usedNow_le r now).trans hr.used_le }

theorem steady_reserve (now w : Nat) : Steady (Card.reserve now w) := by
  have hroll := steady_rollover now
  constructor
  · intro r
    rcases hrefusal : (r.rollover now).reserveRefusal w with _ | code
    · rw [reserve_of_granted r now w hrefusal]; exact hroll.id_eq r
    · rw [reserve_of_refused r now w hrefusal]; exact hroll.id_eq r
  · intro r hr
    rcases hrefusal : (r.rollover now).reserveRefusal w with _ | code
    · rw [reserve_of_granted r now w hrefusal]
      refine { hroll.ok r hr with reserved_le := ?_ }
      rw [reserveRefusal_rollover] at hrefusal
      split_ifs at hrefusal with hmany
      exact Nat.not_lt.1 hmany
    · rw [reserve_of_refused r now w hrefusal]; exact hroll.ok r hr

theorem steady_commit (now w : Nat) (charged : Bool) : Steady (Card.commit now w charged) := by
  refine ⟨fun r => by rw [commit_eq], fun r hr => ?_⟩
  have hused := (usedNow_le r now).trans hr.used_le
  rw [commit_eq]
  refine { hr with used_le := ?_, reserved_le := (Nat.sub_le _ _).trans hr.reserved_le }
  dsimp only
  split_ifs <;> omega

theorem steady_giveBack (w : Nat) : Steady (Card.giveBack w) :=
  ⟨fun _ => rfl, fun _ hr => { hr with reserved_le := (Nat.sub_le _ _).trans hr.reserved_le }⟩

theorem steady_suspend : Steady fun r => { r with suspended := true } := ⟨fun _ => rfl, fun _ hr => { hr with }⟩

end Sys2Proof.Machine.CardDirectory
end

section
namespace Sys2Proof.Machine.CardDirectory

/-! ### List order (R114) -/

theorem keyBefore_trans : ∀ {xs ys zs : List Nat}, keyBefore xs ys = true → keyBefore ys zs = true → keyBefore xs zs = true
  | x :: xs, y :: ys, z :: zs, hxy, hyz => by
    simp only [keyBefore, Bool.or_eq_true, Bool.and_eq_true, decide_eq_true_eq] at hxy hyz ⊢
    rcases hxy with hxy | ⟨rfl, hxy⟩ <;> rcases hyz with hyz | ⟨rfl, hyz⟩
    · exact .inl (hxy.trans hyz)
    · exact .inl hxy
    · exact .inl hyz
    · exact .inr ⟨rfl, keyBefore_trans hxy hyz⟩

theorem keyBefore_total : ∀ {xs ys : List Nat}, xs.length = ys.length → xs ≠ ys → keyBefore xs ys = true ∨ keyBefore ys xs = true
  | [], [], _, hne => absurd rfl hne
  | x :: xs, y :: ys, hlen, hne => by
    simp only [keyBefore, Bool.or_eq_true, Bool.and_eq_true, decide_eq_true_eq]
    rcases Nat.lt_trichotomy x y with h | rfl | h
    · exact .inl (.inl h)
    · exact (keyBefore_total (Nat.succ.inj hlen) fun e => hne (by rw [e])).imp (fun h => .inr ⟨rfl, h⟩) fun h => .inr ⟨rfl, h⟩
    · exact .inr (.inl h)

theorem before_trans {a b c : Entry} (hab : a.before b = true) (hbc : b.before c = true) : a.before c = true := keyBefore_trans hab hbc

theorem container_of_key {a b : Entry} (h : a.key = b.key) : a.container = b.container := Option.some.inj (congrArg List.getLast? h)

/-- Of the entries of two containers, one stands before the other: the container number is the last part of the key. -/
theorem before_of_not_before {a b : Entry} (hne : a.container ≠ b.container) (h : ¬a.before b = true) : b.before a = true :=
  (keyBefore_total (xs := a.key) (ys := b.key) rfl fun hkey => hne (container_of_key hkey)).resolve_left h

theorem insertEntry_perm (e : Entry) (l : List Entry) : (insertEntry e l).Perm (e :: l) := by
  induction l with
  | nil => exact .refl _
  | cons x xs ih =>
    unfold insertEntry
    split
    · exact .refl _
    · exact (ih.cons x).trans (.swap e x xs)

theorem insertEntry_sorted {e : Entry} {l : List Entry} (hl : l.Pairwise fun a b => a.before b = true)
    (hne : ∀ x ∈ l, e.container ≠ x.container) : (insertEntry e l).Pairwise fun a b => a.before b = true := by
  induction l with
  | nil => exact List.pairwise_singleton ..
  | cons x xs ih =>
    obtain ⟨hx, hxs⟩ := List.pairwise_cons.1 hl
    unfold insertEntry
    split
    · next hbefore =>
      exact List.pairwise_cons.2 ⟨List.forall_mem_cons.2 ⟨hbefore, fun y hy => before_trans hbefore (hx y hy)⟩, hl⟩
    · next hnot =>
      refine List.pairwise_cons.2 ⟨fun y hy => ?_, ih hxs fun y hy => hne y (List.mem_cons_of_mem x hy)⟩
      rcases List.mem_cons.1 ((insertEntry_perm e xs).mem_iff.1 hy) with rfl | hy
      · exact before_of_not_before (hne x (List.mem_cons_self ..)) hnot
      · exact hx y hy

/-! ### Sound collection lists (R113, R114) -/

/-- The entries of a list are those of containers in use, one to a container, in list order. -/
structure Listed (s : State) (l : List Entry) : Prop where
  inUse : ∀ e ∈ l, (s.container? e.container).isSome = true
  distinct : l.Pairwise fun a b => a.container ≠ b.container
  sorted : l.Pairwise fun a b => a.before b = true

theorem lt_of_container? {s : State} {c : Nat} (h : (s.container? c).isSome = true) : c < 4 * s.stations.length :=
  lt_of_hatch? ((container?_isSome s c) ▸ h)

/-- With sixteen station records at most 64 containers are in use, so the list's length needs no care. -/
theorem listOk_iff (s : State) : ListOk s ↔ s.stations.length = 16 ∧ Listed s s.collection := by
  constructor
  · rintro ⟨hlen, _, hinUse, hdistinct, hsorted⟩
    exact ⟨hlen, hinUse, hdistinct, hsorted⟩
  · rintro ⟨hlen, hinUse, hdistinct, hsorted⟩
    refine ⟨hlen, ?_, hinUse, hdistinct, hsorted⟩
    have hsub : s.collection.map Entry.container ⊆ List.range 64 := fun c hc => by
      obtain ⟨e, he, rfl⟩ := List.mem_map.1 hc
      have := lt_of_container? (hinUse e he)
      exact List.mem_range.2 (by omega)
    simpa using (List.subperm_of_subset (List.pairwise_map.2 hdistinct) hsub).length_le

namespace Listed

variable {s : State} {l : List Entry} (h : Listed s l)
include h

/-- An entry put in its place (R114). -/
theorem place {e : Entry} (he : (s.container? e.container).isSome = true) : Listed s (placeEntry e l) := by
  have hothers : ∀ x ∈ l.filter fun x => x.container != e.container, e.container ≠ x.container :=
    fun x hx => by simpa using Ne.symm (a := x.container) (by simpa using (List.mem_filter.1 hx).2)
  have hperm := insertEntry_perm e (l.filter fun x => x.container != e.container)
  refine ⟨fun x hx => ?_, ?_, insertEntry_sorted (h.sorted.filter _) hothers⟩
  · rcases List.mem_cons.1 (hperm.mem_iff.1 hx) with rfl | hx
    · exact he
    · exact h.inUse x (List.mem_filter.1 hx).1
  · exact (hperm.pairwise_iff fun hab => Ne.symm hab).2 (List.pairwise_cons.2 ⟨hothers, h.distinct.filter _⟩)

theorem filter (p : Entry → Bool) : Listed s (l.filter p) :=
  ⟨fun x hx => h.inUse x (List.mem_filter.1 hx).1, h.distinct.filter p, h.sorted.filter p⟩

/-- The claim state is not part of the key (R113). -/
theorem map {f : Entry → Entry} (hf : ∀ e, (f e).key = e.key) : Listed s (l.map f) := by
  have hcontainer : ∀ e, (f e).container = e.container := fun e => container_of_key (hf e)
  refine ⟨List.forall_mem_map.2 fun e he => ?_, List.pairwise_map.2 (h.distinct.imp fun {a b} hab => ?_),
    List.pairwise_map.2 (h.sorted.imp fun {a b} hab => ?_)⟩
  · rw [hcontainer]; exact h.inUse e he
  · rwa [hcontainer, hcontainer]
  · simpa [Entry.before, hf] using hab

/-- A list of the containers in use stays one when as many are in use. -/
theorem congr {t : State} (ht : ∀ e ∈ l, (t.container? e.container).isSome = (s.container? e.container).isSome) : Listed t l :=
  { h with inUse := fun e he => (ht e he).trans (h.inUse e he) }

end Listed

/-! ### Calm changes and changes that keep the tables, the list and the accounts -/

/-- From `s` to `t` neither the ledger nor the watch list changes, and a sound collection list stays sound. -/
structure Calm (s t : State) : Prop where
  ledger_eq : ledger t = ledger s
  watch_eq : t.watch = s.watch
  list : Listed s s.collection → Listed t t.collection

/-- From `s` to `t` the directory and the watch list, the collection list, and the accounts of cards stay sound. -/
structure Keeps (s t : State) : Prop where
  tables : TablesOk s → TablesOk t
  list : ListOk s → ListOk t
  accounts : AccountsOk s → AccountsOk t

namespace Calm

theorem refl (s : State) : Calm s s := ⟨rfl, rfl, id⟩

theorem trans {s t u : State} (h₁ : Calm s t) (h₂ : Calm t u) : Calm s u :=
  ⟨h₂.ledger_eq.trans h₁.ledger_eq, h₂.watch_eq.trans h₁.watch_eq, h₂.list ∘ h₁.list⟩

theorem inUse {s t : State} (h : Calm s t) (c : Nat) : (t.container? c).isSome = (s.container? c).isSome :=
  container?_isSome_congr h.ledger_eq c

/-- A change of the collection list alone. -/
theorem of_collection {s t : State} (hledger : ledger t = ledger s) (hwatch : t.watch = s.watch)
    (hlist : Listed s s.collection → Listed s t.collection) : Calm s t :=
  ⟨hledger, hwatch, fun h => (hlist h).congr fun _ _ => container?_isSome_congr hledger _⟩

/-- A change that leaves ledger, watch list and collection list. -/
theorem of_eq {s t : State} (hledger : ledger t = ledger s) (hwatch : t.watch = s.watch) (hcollection : t.collection = s.collection) :
    Calm s t :=
  of_collection hledger hwatch fun h => hcollection.symm ▸ h

theorem ite {s t u : State} {p : Prop} [Decidable p] (ht : Calm s t) (hu : Calm s u) : Calm s (if p then t else u) := by
  split
  · exact ht
  · exact hu

theorem each {s : State} {ns : List Nat} {f : Nat → State → State} (hf : ∀ n ∈ ns, ∀ u, Calm s u → Calm u (f n u)) :
    Calm s (forEach ns f s) :=
  forEach_induction (P := Calm s) (fun n hn u hu => hu.trans (hf n hn u hu)) (refl s)

end Calm

namespace Keeps

theorem refl (s : State) : Keeps s s := ⟨id, id, id⟩

theorem trans {s t u : State} (h₁ : Keeps s t) (h₂ : Keeps t u) : Keeps s u :=
  ⟨h₂.tables ∘ h₁.tables, h₂.list ∘ h₁.list, h₂.accounts ∘ h₁.accounts⟩

theorem ite {s t u : State} {p : Prop} [Decidable p] (ht : Keeps s t) (hu : Keeps s u) : Keeps s (if p then t else u) := by
  split
  · exact ht
  · exact hu

theorem each {ns : List Nat} {f : Nat → State → State} (hf : ∀ n u, Keeps u (f n u)) (s : State) : Keeps s (forEach ns f s) :=
  forEach_induction (P := Keeps s) (fun n _ u hu => hu.trans (hf n u)) (refl s)

end Keeps

theorem Calm.listOk {s t : State} (h : Calm s t) (hs : ListOk s) : ListOk t := by
  obtain ⟨hlen, hlisted⟩ := (listOk_iff s).1 hs
  exact (listOk_iff t).2 ⟨(congrArg Ledger.records h.ledger_eq).trans hlen, h.list hlisted⟩

theorem Calm.keeps {s t : State} (h : Calm s t) : Keeps s t where
  tables hs := by
    have hcards : t.directory.cards = s.directory.cards := congrArg Ledger.cards h.ledger_eq
    rw [tablesOk_iff] at hs ⊢
    rwa [hcards, h.watch_eq]
  list := h.listOk
  accounts hs := by rwa [accountsOk_iff, h.ledger_eq, ← accountsOk_iff]

end Sys2Proof.Machine.CardDirectory
end

section
namespace Sys2Proof.Machine.CardDirectory

/-! ### What the ledger shows of a change of the stations -/

theorem ledger_updStation (s : State) (t : Nat) {f : Station → Station}
    (hf : ∀ st, s.station? t = some st → (f st).slots.map Container.hatch = st.slots.map Container.hatch) :
    ledger (s.updStation t f) = ledger s := by
  have hhatches : (ledger (s.updStation t f)).hatches = (ledger s).hatches := by
    funext u
    unfold ledger
    dsimp only
    rw [State.station?_updStation]
    split_ifs with hu
    · subst hu
      rw [Option.map_map]
      exact Option.map_congr hf
    · rfl
  have hrecords : (ledger (s.updStation t f)).records = (ledger s).records := List.length_modify ..
  calc ledger (s.updStation t f)
      = { ledger s with records := (ledger (s.updStation t f)).records, hatches := (ledger (s.updStation t f)).hatches } := rfl
    _ = ledger s := by rw [hhatches, hrecords]

theorem map_modify_of_eq {α β : Type} {f : α → α} {g : α → β} (hf : ∀ x, g (f x) = g x) (l : List α) (i : Nat) :
    (l.modify i f).map g = l.map g := by
  apply List.ext_getElem?
  intro j
  rw [List.getElem?_map, List.getElem?_modify, List.getElem?_map]
  rcases l[j]? with _ | x
  · rfl
  · by_cases hij : i = j <;> simp [hij, hf]

theorem ledger_updContainer (s : State) (c : Nat) {f : Container → Container} (hf : ∀ k, (f k).hatch = k.hatch) :
    ledger (s.updContainer c f) = ledger s :=
  ledger_updStation s _ fun _ _ => map_modify_of_eq hf _ _

/-- A change of the hatch record of a container in the ledger. -/
theorem ledger_updHatch (s : State) (c : Nat) {f : Container → Container} {g : HatchRecord → HatchRecord} (hf : ∀ k, (f k).hatch = g k.hatch) :
    ledger (s.updContainer c f) = (ledger s).setHatch c g := by
  have hslots : ∀ l : List Container, (l.modify (c % 4) f).map Container.hatch = (l.map Container.hatch).modify (c % 4) g := fun l => by
    apply List.ext_getElem?
    intro j
    rw [List.getElem?_map, List.getElem?_modify, List.getElem?_modify, List.getElem?_map]
    rcases l[j]? with _ | k
    · rfl
    · by_cases hij : c % 4 = j <;> simp [hij, hf]
  have hhatches : (ledger (s.updContainer c f)).hatches = ((ledger s).setHatch c g).hatches := by
    funext u
    unfold Ledger.setHatch ledger State.updContainer
    dsimp only
    rw [State.station?_updStation]
    split_ifs with hu
    · subst hu
      rcases s.station? (c / 4) with _ | st
      · rfl
      · exact congrArg some (hslots st.slots)
    · rfl
  have hrecords : (ledger (s.updContainer c f)).records = (ledger s).records := List.length_modify ..
  calc ledger (s.updContainer c f)
      = { ledger s with records := (ledger (s.updContainer c f)).records, hatches := (ledger (s.updContainer c f)).hatches } := rfl
    _ = (ledger s).setHatch c g := by rw [hhatches, hrecords]; rfl

/-! ### Calm updates -/

section
variable (s : State) (c t : Nat)

theorem calm_updStation {f : Station → Station}
    (hf : ∀ st, s.station? t = some st → (f st).slots.map Container.hatch = st.slots.map Container.hatch) : Calm s (s.updStation t f) :=
  .of_eq (ledger_updStation s t hf) rfl rfl

/-- A change of a station that keeps its slots. -/
theorem calm_setStation {f : Station → Station} (hf : ∀ st, (f st).slots = st.slots := by exact fun _ => rfl) : Calm s (s.updStation t f) :=
  calm_updStation s t fun st _ => by rw [hf]

theorem calm_updContainer {f : Container → Container} (hf : ∀ k, (f k).hatch = k.hatch := by exact fun _ => rfl) : Calm s (s.updContainer c f) :=
  .of_eq (ledger_updContainer s c hf) rfl rfl

theorem calm_updEst (f : Estimator → Estimator) : Calm s (s.updEst c f) := calm_updContainer s c

theorem calm_updFlags (f : ContainerFlags → ContainerFlags) : Calm s (s.updFlags c f) := calm_updContainer s c

theorem calm_changeImage (f : Outputs → Outputs) : Calm s (s.changeImage c f) := by
  refine calm_updStation s (c / 4) fun st _ => ?_
  unfold Station.changeImage
  split
  · rfl
  · split
    · rfl
    · refine map_modify_of_eq ?_ _ _
      exact fun _ => rfl

theorem calm_showLamp (l : Lamp) : Calm s (s.showLamp c l) := (calm_changeImage s c _).trans (calm_updContainer _ c)

/-- A change of nothing that the ledger, the watch list or the collection list shows. -/
theorem calm_updPort (p : Port) (f : PortState → PortState) : Calm s (s.updPort p f) := by cases p <;> exact .of_eq rfl rfl rfl

theorem calm_reply (p : Port) (kind : Byte) (code : ResultCode) (data : List Byte) : Calm s (s.reply p kind code data) := calm_updPort s p _

theorem calm_postAt (cls : EventClass) (b : EventBody) : Calm s (s.postAt cls c b) := .of_eq rfl rfl rfl

theorem calm_endVisit : Calm s s.endVisit := .of_eq rfl rfl rfl

theorem calm_post (cls : EventClass) (st k : Option Nat) (b : EventBody) : Calm s (s.post cls st k b) := .of_eq rfl rfl rfl

theorem calm_updOp (f : Operation → Operation) : Calm s (s.updOp c f) := .of_eq rfl rfl rfl

/-! ### The collection list -/

theorem calm_place {e : Entry} (he : Listed s s.collection → (s.container? e.container).isSome = true) : Calm s (s.place e) :=
  .of_collection rfl rfl fun h => h.place (he h)

/-- An entry put in the place of the container's entry. -/
theorem calm_replace {e e' : Entry} (he : s.entry? c = some e) (hc : e'.container = e.container) : Calm s (s.place e') :=
  calm_place s fun h => hc ▸ h.inUse e (List.mem_of_find?_eq_some he)

/-- An entry put in the place of the container's entry, and posted. -/
theorem calm_replacePosted {e e' : Entry} (he : s.entry? c = some e) (hc : e'.container = e.container) (r : Option Reason) :
    Calm s ((s.place e').postListEntry e' r) :=
  (calm_replace s c he hc).trans (.of_eq rfl rfl rfl)

theorem calm_unlist : Calm s (s.unlist c) := .of_collection rfl rfl fun h => h.filter _

theorem calm_postListEntry (e : Entry) (r : Option Reason) : Calm s (s.postListEntry e r) := .of_eq rfl rfl rfl

variable {c} in
theorem calm_insertionRequest (hc : (s.container? c).isSome = true) (x : Reason) (h : Nat) : Calm s (s.insertionRequest c x h) := by
  unfold State.insertionRequest
  split
  · exact (calm_place s fun _ => hc).trans (calm_postListEntry _ _ _)
  · next e he =>
    split
    · exact calm_replacePosted s c he (by rfl) _
    · exact calm_replace s c he rfl

theorem calm_downgradeRequest (h : Nat) : Calm s (s.downgradeRequest c h) := by
  unfold State.downgradeRequest
  split
  · exact .refl s
  · next e he =>
    split
    · exact calm_replacePosted s c he (by rfl) _
    · exact calm_replace s c he rfl

theorem calm_removalRequest (h : Nat) : Calm s (s.removalRequest c h) := by
  unfold State.removalRequest
  split
  · exact .refl s
  · next e he =>
    split
    · exact calm_unlist s c
    · exact calm_replace s c he rfl

variable {c} in
theorem calm_bandRequests (hc : (s.container? c).isSome = true) (old : Option Band) (new : Band) (h : Nat) :
    Calm s (s.bandRequests c old new h) := by
  have insert : ∀ (p : Prop) [Decidable p] (x : Reason) {u : State}, Calm s u → Calm s (if p then u.insertionRequest c x h else u) :=
    fun _ _ x u hu => .ite (hu.trans (calm_insertionRequest u ((hu.inUse c).trans hc) x h)) hu
  have lowered : Calm s (if old = some .lockout ∧ new ≠ .lockout then s.downgradeRequest c h else s) :=
    .ite (calm_downgradeRequest s c h) (.refl s)
  exact insert _ _ (insert _ _ (lowered.trans (.ite (calm_removalRequest _ c h) (.refl _))))

variable {c} in
theorem calm_forecastEvaluation (hc : (s.container? c).isSome = true) (h : Nat) : Calm s (s.forecastEvaluation c h) := by
  unfold State.forecastEvaluation
  split
  · exact .ite (calm_insertionRequest s hc _ h) (.refl s)
  · next e he => exact .ite (calm_unlist s c) (calm_replace s c he rfl)

theorem calm_claimEntry : Calm s (s.claimEntry c) := by
  unfold State.claimEntry
  split
  · next e he =>
    refine .ite (.refl s) (Calm.trans (calm_replace s c he ?_) (.of_eq rfl rfl rfl))
    rfl
  · exact .refl s

variable {c} in
theorem calm_claimRequest (hc : (s.container? c).isSome = true) : Calm s (s.claimRequest c) := by
  unfold State.claimRequest
  split
  · exact (calm_insertionRequest s hc _ _).trans (calm_claimEntry _ c)
  · exact calm_claimEntry s c

theorem calm_releaseWith (x : Reason) : Calm s (s.releaseWith c x) := by
  unfold State.releaseWith
  split
  · exact .refl s
  · next e he => exact .ite (calm_replace s c he rfl) (calm_replacePosted s c he (by rfl) _)

theorem calm_listOutcome (o : LiftOutcome) : Calm s (s.listOutcome c o) := by
  cases o with
  | emptied => exact calm_unlist s c
  | partialLift => exact calm_releaseWith s c _
  | abandoned => exact .refl s
  | fault => exact calm_releaseWith s c _

theorem calm_releaseClaims : Calm s s.releaseClaims := .of_collection rfl rfl fun h => h.map fun _ => rfl

/-! ### The monitor -/

/-- A change of the actions in flight and the report queue alone. -/
theorem calm_of_onlyActions {s t : State} (h : OnlyActions s t) : Calm s t := by
  have hwatch : t.watch = s.watch := by unfold OnlyActions at h; have := congrArg State.watch h; exact this
  have hmode : t.mode = s.mode := by unfold OnlyActions at h; have := congrArg State.mode h; exact this
  refine .of_eq ?_ hwatch h.collection
  unfold ledger State.station?
  rw [h.directory, hmode, h.stations]

theorem calm_completeActions : Calm s s.completeActions := calm_of_onlyActions (onlyActions_completeActions s)

theorem calm_updParts (f : PartState → PartState) : Calm s (s.updParts c f) := calm_of_onlyActions (onlyActions_updParts s c f)

theorem calm_followParts : Calm s (s.followParts c) := calm_of_onlyActions (onlyActions_followParts s c)

theorem calm_evaluate : Calm s (s.evaluate t) := calm_setStation s t fun st => by split <;> rfl

theorem calm_patternChange (old : PerContact (Option Bool)) : Calm s (s.patternChange c old) := by
  unfold State.patternChange
  dsimp only
  split
  · exact .refl s
  · exact Calm.trans (calm_updContainer s c) (calm_evaluate _ _)

variable {s} in
theorem calm_withPattern {f : State → State} (hf : Calm s (f s)) : Calm s (s.withPattern c f) := hf.trans (calm_patternChange _ c _)

theorem calm_settleContacts : Calm s (s.settleContacts c) := by
  unfold State.settleContacts
  dsimp only
  split
  · exact .refl s
  · exact calm_updContainer s c

theorem calm_exitTest : Calm s (s.exitTest c) := by
  unfold State.exitTest State.enterUnlatched
  exact .ite ((calm_changeImage s c _).trans (calm_withPattern c (calm_updOp _ c _))) (.refl s)

/-- A hatch change, but for the hatch record. -/
theorem calm_changeHatch (f : HatchRecord → HatchRecord) :
    Calm (s.updContainer c fun k => { k with hatch := f k.hatch }) (s.changeHatch c f) := by
  have hmoved : Calm (s.updContainer c fun k => { k with hatch := f k.hatch })
      ((s.withPattern c (State.updContainer c fun k => { k with hatch := f k.hatch })).followParts c) :=
    (calm_patternChange _ c _).trans (calm_followParts _ c)
  unfold State.changeHatch
  exact .ite (hmoved.trans (calm_exitTest _ c)) hmoved

/-! ### The estimator -/

theorem calm_reportPassages (x : Setup) (b b' : Band) : Calm s (s.reportPassages c x b b') :=
  .each fun _ _ u _ => (calm_updFlags u c _).trans (calm_postAt _ c _ _)

variable {c} in
theorem calm_changeBand (hc : (s.container? c).isSome = true) (x : Setup) (old : Option Band) (new : Band) :
    Calm s (s.changeBand c x old new) := by
  have hentered := calm_updEst s c fun e => { e with band := some new, candidate := none, count := 0 }
  have hreported : ∀ {u : State}, Calm s u → Calm s ((match old with
      | none => u
      | some b => u.reportPassages c x b new).updEst c (Estimator.forecastNow x)) := fun {u} hu => by
    cases old with
    | none => exact hu.trans (calm_updEst u c _)
    | some b => exact (hu.trans (calm_reportPassages u c x b new)).trans (calm_updEst _ c _)
  exact (hreported hentered).trans (calm_bandRequests _ (((hreported hentered).inUse c).trans hc) _ _ _)

variable {c} in
theorem calm_evaluateSeed (hc : (s.container? c).isSome = true) (x : Setup) (e : Estimator) : Calm s (s.evaluateSeed c x e) := by
  unfold State.evaluateSeed
  exact .ite ((calm_updEst s c _).trans (calm_updEst _ c _)) (calm_changeBand s hc x _ _)

variable {c} in
theorem calm_evaluateSample (hc : (s.container? c).isSome = true) (x : Setup) (e : Estimator) : Calm s (s.evaluateSample c x e) := by
  unfold State.evaluateSample
  split
  · exact .refl s
  · exact .ite (calm_updEst s c _) (.ite (calm_changeBand s hc x _ _) (calm_updEst s c _))

variable {c} in
theorem calm_evaluateCredit (hc : (s.container? c).isSome = true) (x : Setup) (e : Estimator) : Calm s (s.evaluateCredit c x e) := by
  unfold State.evaluateCredit
  split
  · exact .refl s
  · exact .ite (calm_changeBand s hc x _ _) (.refl s)

theorem calm_credit (w : Nat) : Calm s (s.credit c w) := by
  unfold State.credit
  split
  · exact .refl s
  · next k hk =>
    split
    · exact .refl s
    · next x _ =>
      have hadded := calm_updEst s c (Estimator.addDeposit x w)
      have hc : ((s.updEst c (Estimator.addDeposit x w)).container? c).isSome = true := (hadded.inUse c).trans (by simp [hk])
      exact (hadded.trans (calm_evaluateCredit _ hc x _)).trans (calm_updEst _ c _)

theorem calm_requestMeasurement (tag : Option VerifyTag) : Calm s (s.requestMeasurement c tag) := by
  unfold State.requestMeasurement
  split
  · exact .refl s
  · exact .refl s
  · exact calm_updEst s c _
  · exact calm_updContainer s c
  · exact calm_updContainer s c

theorem calm_startSchedule : Calm s s.startSchedule := .each fun d _ u _ => (calm_requestMeasurement u d none).trans (calm_updEst _ d _)

theorem calm_sensorGood (was : Sensor) (l : Nat) : Calm s (s.sensorGood c was l) := by
  unfold State.sensorGood
  exact .ite ((calm_updEst s c _).trans (calm_postAt _ c _ _)) (calm_updEst s c _)

theorem calm_deny (id : CardId) (code : RefusalCode) : Calm s (s.deny c id code) := by
  unfold State.deny State.showRefusal
  split
  · exact (calm_showLamp s c _).trans (calm_postAt _ c _ _)
  · exact calm_postAt s c _ _

end

end Sys2Proof.Machine.CardDirectory
end

section
namespace Sys2Proof.Machine.CardDirectory

open FillEstimation

/-! ### A hatch change with its entry in the accounts -/

/-- The hatch record of a container changes, after a change `w` of the card records and a calm one: the tables and the list stay sound as they do at
`w`, and the accounts when the ledger shows a sound posting. -/
theorem Keeps.updHatch {s w v : State} {c : Nat} {g : Container → Container} {f : HatchRecord → HatchRecord} (hg : ∀ k, (g k).hatch = f k.hatch)
    (htables : TablesOk s → TablesOk w) (hlist : ListOk s → ListOk w) (hv : Calm w v)
    (hsound : (ledger s).Sound → ((ledger w).setHatch c f).Sound) : Keeps s (v.updContainer c g) where
  tables hs := hv.keeps.tables (htables hs)
  list hs := by
    obtain ⟨hlen, hlisted⟩ := (listOk_iff v).1 (hv.listOk (hlist hs))
    refine (listOk_iff _).2 ⟨(List.length_modify ..).trans hlen, hlisted.congr fun e _ => ?_⟩
    rw [State.container?_updContainer]
    split_ifs with he
    · rw [Option.isSome_map, he]
    · rfl
  accounts hs := by
    rw [accountsOk_iff, ledger_updHatch v c hg, hv.ledger_eq]
    exact hsound ((accountsOk_iff s).1 hs)

/-- A hatch change (R105), in the same way. -/
theorem Keeps.changeHatch {s w v : State} {c : Nat} {f : HatchRecord → HatchRecord} (htables : TablesOk s → TablesOk w)
    (hlist : ListOk s → ListOk w) (hv : Calm w v) (hsound : (ledger s).Sound → ((ledger w).setHatch c f).Sound) :
    Keeps s (v.changeHatch c f) :=
  (Keeps.updHatch (fun _ => rfl) htables hlist hv hsound).trans (calm_changeHatch v c f).keeps

theorem listOk_updCard {s : State} (h : ListOk s) (id : CardId) (g : Card → Card) : ListOk (s.updCard id g) := h

theorem hatch?_of_container? {s : State} {c : Nat} {k : Container} (hk : s.container? c = some k) : (ledger s).hatch? c = some k.hatch := by
  rw [hatch?_ledger, hk]; rfl

section
variable {s : State} {c : Nat} {k : Container} (hk : s.container? c = some k)
include hk

/-- A hatch change that leaves the admission, and a LOCKED hatch LOCKED and no other. -/
theorem keeps_moveHatch {f : HatchRecord → HatchRecord} (hadm : (f k.hatch).admission = k.hatch.admission)
    (hstate : (f k.hatch).state = .locked ↔ k.hatch.state = .locked) : Keeps s (s.changeHatch c f) :=
  .changeHatch id id (.refl s) fun hs => hs.moveHatch (hatch?_of_container? hk) hadm hstate

/-- A hatch is LOCKED without a deposit (R102, R106, R107). -/
theorem keeps_lockHatch : Keeps s (s.lockHatch c k.hatch) := by
  unfold State.lockHatch
  rcases ha : k.hatch.admission with _ | a
  · exact .changeHatch id id (calm_changeImage s c _) fun hs => hs.vacate (hatch?_of_container? hk) ha rfl (.inl rfl)
  · exact .changeHatch (fun hs => tablesOk_updCard hs a.card (steady_giveBack a.weight)) (listOk_updCard · _ _) (calm_changeImage (s.giveBack a) c _)
      fun hs => hs.settle (hatch?_of_container? hk) ha rfl rfl fun r => ⟨rfl, rfl, rfl, rfl, Nat.le_add_right ..⟩

end

theorem keeps_withdraw (s : State) (c : Nat) : Keeps s (s.withdraw c) := by
  unfold State.withdraw
  split
  · exact .refl s
  · next k hk =>
    split
    · exact .refl s
    · exact keeps_lockHatch hk
    · exact keeps_moveHatch hk rfl .rfl
    · exact .refl s

theorem keeps_blockRequest (s : State) (c : Nat) (b : BlockCause) : Keeps s (s.blockRequest c b) :=
  (calm_updContainer s c).keeps.trans (keeps_withdraw _ c)

/-! ### Raising events -/

theorem keeps_startLock (s : State) (e : Event) (cs : List Nat) : Keeps s (s.startLock e cs) := by
  have hblocked : Keeps s (forEach cs (fun c => State.blockRequest c .integrityAction) s) := .each (fun c u => keeps_blockRequest u c _) s
  refine hblocked.trans (Calm.trans ?_ (calm_completeActions _)).keeps
  exact .of_eq rfl rfl rfl

theorem inUse_of_hasLatched {s : State} {c : Nat} (h : s.hasLatched c = true) : (s.container? c).isSome = true := by
  unfold State.hasLatched at h
  split at h
  · next k hk => simp [hk]
  · cases h

theorem keeps_raise (s : State) (cls : EventClass) (t : Nat) (c : Option Nat) (named : List Nat) (b : EventBody) :
    Keeps s (s.raise cls t c named b) := by
  unfold State.raise
  dsimp only
  split
  · exact Calm.keeps (.of_eq rfl rfl rfl)
  · exact keeps_startLock s _ _
  · exact keeps_startLock s _ _
  · refine Calm.keeps (Calm.trans (Calm.each fun c hc u hu => ?_) (.of_eq rfl rfl rfl))
    exact calm_insertionRequest u ((hu.inUse c).trans (inUse_of_hasLatched (List.mem_filter.1 hc).2)) _ _

theorem keeps_raiseAt (s : State) (cls : EventClass) (c : Nat) (b : EventBody) : Keeps s (s.raiseAt cls c b) := keeps_raise s _ _ _ _ _

/-! ### Samples -/

section
variable (s : State) (c : Nat)

theorem keeps_rejectSample : Keeps s (s.rejectSample c) := by
  have hcounted : ∀ f, Calm s (s.updEst c f) := calm_updEst s c
  unfold State.rejectSample
  split
  · exact .refl s
  · exact .ite ((((hcounted _).trans (calm_updEst _ c _)).trans (calm_updFlags _ c _)).keeps.trans (keeps_raiseAt _ _ c _)) (hcounted _).keeps

theorem inUse_of_gauges {s t : State} (h : gauges t = gauges s) (c : Nat) : (t.container? c).isSome = (s.container? c).isSome := by
  have := congrArg Option.isSome (congrFun h c)
  simpa [gauges] using this

/-- The overfill test keeps the tables, the list and the accounts, and the containers in use. -/
theorem keeps_overfillTest (x : Setup) (d : Nat) :
    Keeps s (s.overfillTest c x d) ∧ ((s.overfillTest c x d).container? c).isSome = (s.container? c).isSome := by
  have hflagged := calm_updFlags s c fun f => { f with overfill := true }
  unfold State.overfillTest
  split
  · exact ⟨.refl s, rfl⟩
  · split
    · exact ⟨hflagged.keeps.trans (keeps_raiseAt _ _ c _), (inUse_of_gauges (gauges_raiseAt _ _ _ _) c).trans (hflagged.inUse c)⟩
    · exact ⟨.refl s, rfl⟩

variable {c} in
theorem keeps_acceptSample (hc : (s.container? c).isSome = true) (x : Setup) (e : Estimator) (d q : Nat) (tag : Option VerifyTag) :
    Keeps s (s.acceptSample c x e d q tag) := by
  have hgood := calm_sensorGood s c e.sensor (e.absorb x tag (x.levelAt d)).level
  obtain ⟨htested, hinUse⟩ := keeps_overfillTest (s.sensorGood c e.sensor (e.absorb x tag (x.levelAt d)).level) c x d
  have habsorbed := calm_updEst ((s.sensorGood c e.sensor (e.absorb x tag (x.levelAt d)).level).overfillTest c x d) c
    (Estimator.absorb x tag (x.levelAt d))
  have hc' := (habsorbed.inUse c).trans (hinUse.trans ((hgood.inUse c).trans hc))
  have hsampled : ∀ {u : State}, Calm u (if tag = some { seedMarker := true } then u.updEst c Estimator.verificationSeed else u) :=
    fun {u} => .ite (calm_updEst u c _) (.refl u)
  unfold State.acceptSample
  dsimp only
  refine hgood.keeps.trans (htested.trans (Calm.keeps (habsorbed.trans ?_)))
  refine Calm.trans (Calm.trans (.ite ?_ ?_) hsampled) (calm_updEst _ c _)
  · exact calm_evaluateSeed _ hc' x _
  · exact calm_evaluateSample _ hc' x _

theorem keeps_takeEcho (e : Echo) : Keeps s (s.takeEcho c e).1 := by
  have hended := calm_updEst s c fun e => { e with flight := none }
  unfold State.takeEcho
  split
  · exact .refl s
  · next k hk =>
    have hc : ((s.endFlight c).container? c).isSome = true := (hended.inUse c).trans (by simp [hk])
    split
    · exact .refl s
    · exact hended.keeps
    · dsimp only
      split_ifs
      · exact hended.keeps
      · split
        · exact hended.keeps.trans (keeps_rejectSample _ c)
        · split_ifs
          · exact hended.keeps.trans (keeps_rejectSample _ c)
          · exact hended.keeps.trans (keeps_acceptSample _ hc _ _ _ _ _)

theorem keeps_takeEchoTimeout : Keeps s (s.takeEchoTimeout c).1 := by
  have hended := calm_updEst s c fun e => { e with flight := none }
  unfold State.takeEchoTimeout
  split
  · exact .refl s
  · split
    · exact .refl s
    · split
      · exact hended.keeps
      · exact hended.keeps.trans (keeps_rejectSample _ c)

/-! ### The emptying controller -/

variable {c} in
theorem keeps_start (hc : (s.container? c).isSome = true) (b : StartBy) : Keeps s (s.start c b) := by
  have hmade : Calm s (s.withPattern c (State.makeOperation c b)) := calm_withPattern c (by
    unfold State.makeOperation
    split
    · exact .of_eq rfl rfl rfl
    · exact .refl s)
  have hstarted : Calm s ((s.withPattern c (State.makeOperation c b)).addStarted c) := hmade.trans (.of_eq rfl rfl rfl)
  have hclaimed := hstarted.trans (.ite (p := b = .host) (calm_claimRequest _ ((hstarted.inUse c).trans hc)) (.refl _))
  exact hclaimed.keeps.trans ((keeps_withdraw _ c).trans (calm_exitTest _ c).keeps)

theorem keeps_finish (op : Operation) (o : LiftOutcome) : Keeps s (s.finish op o) := by
  have hreleased : Calm s ((s.releaseVerification op.container).setLatch op.container .engage) :=
    Calm.trans (calm_updContainer s _) (calm_changeImage _ _ _)
  have hcounted := hreleased.trans (u := { (s.releaseVerification op.container).setLatch op.container .engage with
    round := ((s.releaseVerification op.container).setLatch op.container .engage).round.map (Round.countOutcome o) }) (.of_eq rfl rfl rfl)
  have hblocked := hcounted.keeps.trans (.ite (p := o = .fault) (keeps_blockRequest _ op.container .lift) (.refl _))
  exact hblocked.trans (Calm.keeps (((calm_listOutcome _ _ o).trans (calm_withPattern _ (.of_eq rfl rfl rfl))).trans (calm_postAt _ _ _ _)))

theorem keeps_endOperation (o : LiftOutcome) : Keeps s (s.endOperation c o) := by
  unfold State.endOperation
  split
  · exact .refl s
  · next op _ =>
    exact .ite ((keeps_finish s op o).trans (.each (fun d u => (calm_exitTest u d).keeps) _)) (keeps_finish s op o)

theorem keeps_afterAnswer : Keeps s (s.afterAnswer c) := by
  unfold State.afterAnswer
  split
  · exact .ite (keeps_endOperation s c _) (.refl s)
  · exact .refl s

theorem keeps_takeAnswer (a : Answer) : Keeps s (s.takeAnswer c a) := by
  have hnoted : ∀ f, Keeps s (s.updOp c f) := fun f => (calm_updOp s c f).keeps
  unfold State.takeAnswer
  split
  · exact .refl s
  · split
    · split
      · exact keeps_afterAnswer s c
      · dsimp only
        split
        · exact .ite ((hnoted _).trans (keeps_endOperation _ c _)) ((hnoted _).trans (keeps_afterAnswer _ c))
        · exact (hnoted _).trans (keeps_afterAnswer _ c)
    · exact .refl s

theorem keeps_answered (a : Option Answer) : Keeps s (s.answered c a) := by
  cases a with
  | none => exact .refl s
  | some a => exact keeps_takeAnswer s c a

theorem keeps_attempt : Keeps s (s.attempt c) := by
  unfold State.attempt
  split
  · exact .refl s
  · have hrequested : ∀ f tag, Keeps s ((s.updOp c f).requestMeasurement c tag) := fun f tag =>
      ((calm_updOp s c f).trans (calm_requestMeasurement _ c tag)).keeps
    exact .ite ((hrequested _ _).trans (keeps_takeAnswer _ c _)) (hrequested _ _)

theorem keeps_enterReturned : Keeps s (s.enterReturned c) :=
  ((calm_changeImage s c _).trans (calm_withPattern c (calm_updOp _ c _))).keeps.trans (keeps_attempt _ c)

theorem keeps_opContacts (acc : PerContact Acceptance) : Keeps s (s.opContacts c acc) := by
  unfold State.opContacts
  split
  · split
    · exact .ite (calm_exitTest s c).keeps (.refl s)
    · exact .ite (calm_withPattern c (calm_updOp s c _)).keeps (.refl s)
    · exact .ite (keeps_enterReturned s c) (.refl s)
    · exact .refl s
  · exact .refl s

theorem keeps_seatingTest (acc : PerContact Acceptance) : Keeps s (s.seatingTest c acc) := by
  have hchecked : Calm s (s.updContainer c fun k => { k with seatingCheck := false }) := calm_updContainer s c
  unfold State.seatingTest
  split
  · exact .refl s
  · next k hk =>
    have hc : (((s.updContainer c fun k => { k with seatingCheck := false }).blockRequest c .liftInterrupted).container? c).isSome = true :=
      (inUse_of_gauges (gauges_blockRequest _ c _) c).trans ((hchecked.inUse c).trans (by simp [hk]))
    exact .ite (.ite (hchecked.keeps.trans ((keeps_blockRequest _ c _).trans (calm_insertionRequest _ hc _ _).keeps)) hchecked.keeps) (.refl s)

theorem keeps_emptyingContacts (acc : PerContact Acceptance) : Keeps s (s.emptyingContacts c acc) :=
  (keeps_opContacts s c acc).trans (keeps_seatingTest _ c acc)

theorem keeps_emptyingOffline (t : Nat) : Keeps s (s.emptyingOffline t) := by
  refine .each (fun d u => ?_) s
  split
  · exact keeps_endOperation u d _
  · exact keeps_endOperation u d _
  · exact .refl u

theorem keeps_actuatorFaultNotice : Keeps s (s.actuatorFaultNotice c) := by
  unfold State.actuatorFaultNotice
  exact .ite (keeps_endOperation s c _) (.refl s)

end

end Sys2Proof.Machine.CardDirectory
end

section
namespace Sys2Proof.Machine.CardDirectory

/-! ### Card records of a presentation -/

/-- A change of card records that neither raises what is used nor touches what is reserved. -/
theorem keeps_updCard (s : State) (id : CardId) {g : Card → Card} (hsteady : Steady g)
    (hg : ∀ r ∈ s.directory.cards, r.id = id → (ledger s).Sound →
      (g r).reserved = r.reserved ∧ (g r).weight = r.weight ∧ (g r).allowance = r.allowance ∧ (g r).used ≤ r.used) :
    Keeps s (s.updCard id g) where
  tables hs := tablesOk_updCard hs id hsteady
  list hs := listOk_updCard hs id g
  accounts hs := by
    rw [accountsOk_iff] at hs ⊢
    refine hs.amend fun r hr => ⟨(hsteady.at_id id).id_eq r, ?_⟩
    by_cases hid : r.id = id
    · simpa [hid] using hg r hr hid hs
    · simp [hid]

theorem keeps_suspendCard (s : State) (id : CardId) : Keeps s (s.suspendCard id) :=
  keeps_updCard s id steady_suspend fun _ _ _ _ => ⟨rfl, rfl, rfl, le_rfl⟩

theorem keeps_watchStep (s : State) (c : Nat) (id : CardId) : Keeps s (s.watchStep c id) := by
  unfold State.watchStep
  split
  · exact .refl s
  · exact (calm_postAt s c _ _).keeps.trans (keeps_suspendCard _ id)
  · exact (calm_postAt s c _ _).keeps

theorem card?_eq_some {s : State} {id : CardId} {r : Card} (h : s.card? id = some r) : r ∈ s.directory.cards ∧ r.id = id :=
  ⟨List.mem_of_find?_eq_some h, by simpa using List.find?_some h⟩

/-- The hatch record under an admission (R96). -/
def admitted (a : Admission) (window : Nat) (h : HatchRecord) : HatchRecord :=
  { h with state := .released, admission := some a, window := some window }

/-- A reservation at a LOCKED hatch outside CONFIGURE, with the admission that follows a granted one (R71, R96). -/
theorem keeps_reserveAndAdmit {s : State} {c : Nat} {k : Container} {r : Card} {id : CardId} (hk : s.container? c = some k)
    (hmode : s.mode ≠ .configure) (hr : s.card? id = some r) (hlocked : k.hatch.state = .locked) : Keeps s (s.reserveAndAdmit c k r) := by
  obtain ⟨hmem, _⟩ := card?_eq_some hr
  have hsteady := steady_reserve s.currentPeriod r.weightOf
  unfold State.reserveAndAdmit
  dsimp only
  split
  · next code hrefused =>
    refine (keeps_updCard s r.id hsteady fun r' hr' hid hs => ?_).trans (calm_deny _ c _ _).keeps
    obtain rfl := hs.eq_of_id hr' hmem hid
    rw [reserve_of_refused _ _ _ hrefused, rollover_eq]
    exact ⟨rfl, rfl, rfl, usedNow_le _ _⟩
  · next hgranted =>
    let a : Admission := { card := r.id, weight := r.weightOf, charged := s.chargedAt k }
    refine Keeps.changeHatch (w := s.updCard r.id (Card.reserve s.currentPeriod r.weightOf)) (f := admitted a s.tuning.releaseWindow)
      (fun hs => tablesOk_updCard hs r.id hsteady) (listOk_updCard · _ _) ((calm_changeImage _ c _).trans (calm_showLamp _ c .green)) fun hs => ?_
    refine hs.grant (a := a) (f := admitted a s.tuning.releaseWindow) (hatch?_of_container? hk) hlocked rfl (by simp [admitted]) hmode
      ⟨r, hmem, rfl⟩ (one_le_weightOf r (hs.weight_pos r hmem)) (fun r' => ⟨hsteady.id_eq r', reserve_weight _ _ _⟩) ?_
    rintro r' hr' hid
    obtain rfl := hs.eq_of_id hr' hmem hid
    rw [reserve_of_granted _ _ _ hgranted, rollover_eq]
    rw [reserveRefusal_rollover] at hgranted
    refine ⟨rfl, fun hlimited => ?_⟩
    dsimp only at hlimited ⊢
    split_ifs at hgranted with _ hquota
    omega

theorem keeps_crewStart {s : State} {c : Nat} (hc : (s.container? c).isSome = true) (id : CardId) : Keeps s (s.crewStart c id) := by
  unfold State.crewStart
  split
  · exact (calm_deny s c _ _).keeps
  · exact (keeps_start s hc _).trans (calm_showLamp _ c _).keeps

theorem locked_of_containerRefusal {s : State} {c : Nat} {k : Container} {r : Card} (h : s.containerRefusal c k r = none) :
    k.hatch.state = .locked := by
  unfold State.containerRefusal at h
  split_ifs at h with _ _ _ _ _ _ hbusy
  exact Decidable.not_not.1 hbusy

theorem keeps_directorySteps {s : State} {c : Nat} {k : Container} (hk : s.container? c = some k) (hmode : s.mode ≠ .configure)
    (id : CardId) : Keeps s (s.directorySteps c k id) := by
  have hdeny : ∀ code, Keeps s (s.deny c id code) := fun code => (calm_deny s c id code).keeps
  unfold State.directorySteps
  split
  · exact hdeny _
  · next r hr =>
    refine .ite (hdeny _) (.ite (hdeny _) (.ite (keeps_crewStart (by simp [hk]) id) ?_))
    split
    · exact hdeny _
    · next hnone => exact keeps_reserveAndAdmit hk hmode hr (locked_of_containerRefusal hnone)

theorem watchStep_container? (s : State) (c d : Nat) (id : CardId) : (s.watchStep c id).container? d = s.container? d := by
  unfold State.watchStep; split <;> rfl

theorem watchStep_mode (s : State) (c : Nat) (id : CardId) : (s.watchStep c id).mode = s.mode := by
  unfold State.watchStep; split <;> rfl

theorem keeps_serve (s : State) (c : Nat) (id : CardId) : Keeps s (s.serve c id) := by
  have hdeny : ∀ code, Keeps s (s.deny c id code) := fun code => (calm_deny s c id code).keeps
  unfold State.serve
  split
  · exact .refl s
  · next k hk =>
    split
    · exact hdeny _
    · split
      · exact hdeny _
      · next hmode =>
        have hwatched := keeps_watchStep s c id
        refine .ite (hwatched.trans (calm_deny _ c id _).keeps) (hwatched.trans (keeps_directorySteps ?_ ?_ id))
        · rw [watchStep_container?, hk]
        · rwa [watchStep_mode]

theorem keeps_present (s : State) (c : Nat) (id : CardId) : Keeps s (s.present c id) := by
  unfold State.present
  exact .ite (keeps_serve s c id) (.ite (Calm.keeps (.of_eq rfl rfl rfl)) (calm_deny s c id _).keeps)

theorem keeps_foldl {β : Type} {f : State → β → State} (hf : ∀ s x, Keeps s (f s x)) (xs : List β) (s : State) : Keeps s (xs.foldl f s) := by
  induction xs generalizing s with
  | nil => exact .refl s
  | cons x xs ih => exact (hf s x).trans (ih _)

theorem keeps_serveWaiting (s : State) : Keeps s s.serveWaiting :=
  Keeps.trans (t := { s with waiting := [] }) (Calm.keeps (.of_eq rfl rfl rfl))
    (keeps_foldl (fun s (p : Presentation) => keeps_serve s p.container p.card) _ _)

/-! ### The hatch machine (R100 to R103) -/

/-- A deposit completes at an OPEN hatch (R103): an admission is committed, and the credit between that and the hatch change is calm. -/
theorem keeps_completeDeposit {s : State} {c : Nat} {k : Container} (hk : s.container? c = some k) (hopen : k.hatch.state = .opened) :
    Keeps s (s.completeDeposit c k.hatch) := by
  have hc := hatch?_of_container? hk
  unfold State.completeDeposit
  split
  · next a ha =>
    refine .changeHatch (w := s.commit a) (fun hs => tablesOk_updCard hs a.card (steady_commit _ _ _)) (listOk_updCard · _ _)
      ((calm_credit (s.commit a) c _).trans (calm_changeImage _ c _)) fun hs => hs.settle hc ha rfl rfl fun r => ?_
    rw [commit_eq]
    refine ⟨rfl, rfl, rfl, rfl, ?_⟩
    have := usedNow_le r s.currentPeriod
    dsimp only
    split_ifs <;> omega
  · next hnone =>
    split
    · exact .changeHatch id id (calm_credit s c 1) fun hs => hs.moveHatch hc rfl (by simp [hopen])
    · exact .changeHatch id id ((calm_credit s c 1).trans (calm_changeImage _ c _)) fun hs => hs.vacate hc hnone hnone (.inl rfl)

theorem keeps_admissionContacts (s : State) (c : Nat) (acc : PerContact Acceptance) : Keeps s (s.admissionContacts c acc) := by
  unfold State.admissionContacts
  split
  · exact .refl s
  · next k hk =>
    split
    · split
      · next hreleased _ => exact keeps_moveHatch hk rfl (by simp [hreleased])
      · next hopen _ => exact keeps_completeDeposit hk hopen
      · exact .refl s
    · exact .refl s

theorem keeps_hatchOffline (s : State) (c : Nat) : Keeps s (s.hatchOffline c) := by
  unfold State.hatchOffline
  split
  · exact .refl s
  · next k hk => exact .ite (.refl s) (keeps_lockHatch hk)

theorem keeps_cancelForce (s : State) (c : Nat) : Keeps s (s.cancelForce c) := by
  unfold State.cancelForce
  split
  · exact .refl s
  · next k hk =>
    split
    · exact .refl s
    · exact keeps_moveHatch hk rfl .rfl
    · exact keeps_lockHatch hk
    · exact keeps_moveHatch hk rfl .rfl

/-! ### A reply -/

section
variable (s : State) (c t : Nat)

theorem keeps_handSlot (r : SlotReport) (acc : PerContact Acceptance) : Keeps s (s.handSlot c r acc) := by
  have hcontacts : Keeps s (s.handContacts c acc) := by
    unfold State.handContacts
    exact .ite (((keeps_admissionContacts s c acc).trans (keeps_emptyingContacts _ c acc)).trans
      ((calm_settleContacts _ c).trans (calm_followParts _ c)).keeps) (.refl s)
  have hcard : ∀ u : State, Keeps u (u.handCard c r.card) := fun u => by
    unfold State.handCard
    split
    · exact keeps_present u c _
    · exact .refl u
  have hecho : ∀ u : State, Keeps u (u.handEcho c r.echo) := fun u => by
    unfold State.handEcho
    split
    · exact (keeps_takeEcho u c _).trans (keeps_answered _ c _)
    · exact .refl u
  exact (hcontacts.trans (hcard _)).trans (hecho _)

theorem keeps_handSlots (t i : Nat) (rs : List (SlotReport × PerContact Acceptance)) (s : State) : Keeps s (State.handSlots t i rs s) := by
  induction rs generalizing i s with
  | nil => exact .refl s
  | cons r rs ih => exact (keeps_handSlot s _ r.1 r.2).trans (ih (i + 1) _)

theorem keeps_compare (before : StationStatus) (contactDriven : Bool) : Keeps s (s.compare t before contactDriven) := by
  have hstatus : Calm s (s.updStation t fun st => { st with status := statusFor (s.stationMatched t) }) := calm_setStation s t
  have hflagged : ∀ (u : State) bs, Calm u (u.flagBreaches bs) := fun u _ => .each fun d _ v _ => calm_updFlags v d _
  unfold State.compare
  exact .ite (.refl s) (.ite ((hstatus.trans (hflagged _ _)).keeps.trans (keeps_raise _ _ _ _ _ _)) hstatus.keeps)

theorem keeps_takeInput (acc : PerInput Acceptance) (i : Input) : Keeps s (s.takeInput t acc i) := by
  have hflagged : Calm s (s.updStation t fun st => { st with flags := st.flags.setInput i }) := calm_setStation s t
  unfold State.takeInput
  split
  · exact .refl s
  · exact .ite (hflagged.keeps.trans (keeps_raise _ _ _ _ _ _)) (.refl s)

theorem keeps_takeInputs (acc : PerInput Acceptance) : Keeps s (s.takeInputs t acc) :=
  ((keeps_takeInput s t acc .door).trans (keeps_takeInput _ t acc .flood)).trans (keeps_takeInput _ t acc .aux)

/-- A change of every container of a station that keeps the hatch records. -/
theorem calm_mapSlots {f : Station → Station} {g : Container → Container} (hf : ∀ st, (f st).slots = st.slots.map g)
    (hg : ∀ k, (g k).hatch = k.hatch) : Calm s (s.updStation t f) :=
  calm_updStation s t fun st _ => by
    rw [hf, List.map_map]
    exact congrArg (List.map · _) (funext hg)

theorem calm_onlineNotice : Calm s (s.onlineNotice t) := by
  have hdeferred : Calm s (s.updStation t fun st =>
      { st with slots := st.slots.map fun k => { k with settleHL := .deferred, settleLL := .deferred } }) :=
    calm_mapSlots s t (fun _ => rfl) fun _ => rfl
  unfold State.onlineNotice
  exact .ite hdeferred (hdeferred.trans (calm_setStation _ t))

theorem calm_markOnline : Calm s (s.markOnline t) := (calm_setStation s t).trans (calm_post _ _ _ _ _)

variable {s t} in
/-- States with one ledger have as many slots at each station. -/
theorem slots_length_of_ledger {u : State} (h : ledger u = ledger s) {st st' : Station} (hst : s.station? t = some st)
    (hst' : u.station? t = some st') : st'.slots.length = st.slots.length := by
  have hhatches : (u.station? t).map _ = (s.station? t).map _ := congrFun (congrArg Ledger.hatches h) t
  rw [hst, hst'] at hhatches
  simpa using congrArg List.length (Option.some.inj hhatches)

theorem map_zipWith_right {α β γ : Type} {f : α → β → β} {g : β → γ} (hf : ∀ a b, g (f a b) = g b) {as : List α} {bs : List β}
    (hlen : as.length = bs.length) : (List.zipWith f as bs).map g = bs.map g := by
  induction as generalizing bs with
  | nil => rw [List.length_eq_zero_iff.1 hlen.symm]; rfl
  | cons a as ih =>
    cases bs with
    | nil => rfl
    | cons b bs => simp [hf, ih (Nat.succ.inj hlen)]

theorem readSlots_length {n : Nat} {bs : List Byte} {slots : List SlotReport} (h : readSlots n bs = some slots) : slots.length = n := by
  induction n generalizing bs slots with
  | zero =>
    cases bs with
    | nil => obtain rfl := Option.some.inj h; rfl
    | cons b bs => cases h
  | succ n ih =>
    cases bs with
    | nil => cases h
    | cons b bs =>
      unfold readSlots at h
      split at h
      · cases h
      · split at h
        · cases h
        · split at h
          · cases h
          · next slots' hslots =>
            obtain rfl := Option.some.inj h
            exact congrArg (· + 1) (ih hslots)

/-- A valid reply has one slot block for each slot (R14). -/
theorem readReply_slots_length {node n : Nat} {bytes : List Byte} {r : PollReport} (h : readReply node n bytes = some r) :
    r.slots.length = n := by
  unfold readReply at h
  split at h
  · split at h
    · unfold readBody at h
      split at h
      · split at h
        · split at h
          · cases h
          · next slots hslots =>
            obtain rfl := Option.some.inj h
            exact readSlots_length hslots
        · cases h
      · cases h
    · cases h
  · cases h

theorem keeps_takeReply {st : Station} {r : PollReport} (hst : s.station? t = some st) (hlen : r.slots.length = st.slots.length) :
    Keeps s (s.takeReply t st r) := by
  have honline : Calm s (if st.online then s else s.markOnline t) := .ite (.refl s) (calm_markOnline s t)
  have hreported : Calm s ((if st.online then s else s.markOnline t).updStation t (Station.report r)) := by
    refine honline.trans (calm_updStation _ t fun st' hst' => map_zipWith_right (f := Container.reported) (fun _ _ => rfl) ?_)
    exact hlen.trans (slots_length_of_ledger honline.ledger_eq hst hst').symm
  have hstatus : ∀ (u : State) (matched : Bool),
      Keeps u (if st.status = .suspended then u else u.updStation t fun st => { st with status := statusFor matched }) := fun u matched =>
    .ite (.refl u) (Calm.keeps (calm_setStation u t))
  have hnotice : ∀ u : State, Keeps u (if st.online then u else u.onlineNotice t) := fun u => .ite (.refl u) (calm_onlineNotice u t).keeps
  unfold State.takeReply
  dsimp only
  refine Keeps.trans (hreported.keeps.trans ?_) (calm_endVisit _).keeps
  exact ((((keeps_handSlots t 0 _ _).trans (keeps_compare _ t _ _)).trans (keeps_takeInputs _ t _)).trans (hstatus _ _)).trans (hnotice _)

end

end Sys2Proof.Machine.CardDirectory
end

section
namespace Sys2Proof.Machine.CardDirectory

/-! ### Misses and OFFLINE -/

section
variable (s : State) (c t : Nat)

theorem keeps_dropMarker : Keeps s (s.dropMarker c) := by
  unfold State.dropMarker
  split
  · exact .refl s
  · exact (calm_updContainer s c).keeps.trans (keeps_answered _ c _)

theorem keeps_estimatorOffline : Keeps s (s.estimatorOffline c) := by
  unfold State.estimatorOffline
  split
  · exact .refl s
  · exact (calm_updEst s c _).keeps.trans (keeps_answered _ c _)

theorem calm_monitorOffline : Calm s (s.monitorOffline t) := by
  have hcancelled : Calm s (s.updStation t fun st =>
      { st with slots := st.slots.map fun k => { k with settleHL := k.settleHL.cancel, settleLL := k.settleLL.cancel } }) :=
    calm_mapSlots s t (fun _ => rfl) fun _ => rfl
  exact hcancelled.trans (.each fun d _ u _ => calm_updParts u d _)

theorem keeps_goOffline : Keeps s (s.goOffline t) := by
  have hmarked : Calm s (s.updStation t fun st =>
      { st with online := false, status := .suspended, flags := { st.flags with offline := true } }) := calm_setStation s t
  have hcleared : ∀ u : State, Calm u (u.updStation t Station.clearFilters) := fun u => calm_mapSlots u t (fun _ => rfl) fun _ => rfl
  have hposted := (hmarked.trans (calm_post _ .stationOffline (some t) none .stationOffline)).trans (hcleared _)
  have hmarkers : ∀ u : State, Keeps u (forEach (u.containersAt t) State.dropMarker u) := fun u => .each (fun d v => keeps_dropMarker v d) u
  have hhatches : ∀ u : State, Keeps u (forEach (u.containersAt t) State.hatchOffline u) := fun u => .each (fun d v => keeps_hatchOffline v d) u
  have hflights : ∀ u : State, Keeps u (forEach (u.containersAt t) State.estimatorOffline u) := fun u =>
    .each (fun d v => keeps_estimatorOffline v d) u
  exact (((hposted.keeps.trans (hmarkers _)).trans (hhatches _)).trans
    ((keeps_emptyingOffline _ t).trans (calm_monitorOffline _ t).keeps)).trans (hflights _)

theorem keeps_missVisit : Keeps s s.missVisit := by
  have hmiss : ∀ t st, Keeps s (s.miss t st) := fun t st => by
    have hcounted : Calm s (s.updStation t fun st => { st with misses := min 3 (st.misses + 1) }) := calm_setStation s t
    unfold State.miss
    exact .ite (.refl s) (.ite (hcounted.keeps.trans (keeps_goOffline _ t)) hcounted.keeps)
  unfold State.missVisit
  split
  · exact .refl s
  · split
    · exact (hmiss _ _).trans (calm_endVisit _).keeps
    · exact (calm_endVisit s).keeps

theorem keeps_pollReply (bytes : List Byte) : Keeps s (s.pollReply bytes) := by
  unfold State.pollReply
  split
  · exact .refl s
  · split
    · exact (calm_endVisit s).keeps
    · next st hst =>
      split
      · next r hr => exact keeps_takeReply s _ hst (readReply_slots_length hr)
      · exact keeps_missVisit s

theorem calm_stationVisit : Calm s s.stationVisit := by
  have hvisit : ∀ t st, Calm s (s.visit t st) := fun t st => by
    have hsent : Calm s { s with bus := { visiting := some t, last := some t, sent := st.visitFrames } } := .of_eq rfl rfl rfl
    have hcleared : ∀ u : State, Calm u (u.updStation t fun st => { st with resend := false }) := fun u => calm_setStation u t
    have hacted := hsent.trans (.ite (p := st.needsAct = true) (hcleared _) (.refl _))
    unfold State.visit
    exact .ite (hacted.trans (.each fun d _ u _ => calm_updContainer u d)) hacted
  unfold State.stationVisit
  split
  · split
    · exact hvisit _ _
    · exact .refl s
  · exact .refl s

/-! ### Timers -/

theorem calm_lampHoldExpiry : Calm s (s.lampHoldExpiry c) := by
  unfold State.lampHoldExpiry
  split
  · exact .refl s
  · exact (calm_changeImage s c _).trans (calm_updContainer _ c)

theorem calm_periodicExpiry : Calm s (s.periodicExpiry c) := by
  unfold State.periodicExpiry
  split
  · exact .refl s
  · exact (calm_updEst s c _).trans (calm_requestMeasurement _ c none)

theorem calm_postDepositExpiry : Calm s (s.postDepositExpiry c) := by
  unfold State.postDepositExpiry
  split
  · exact .refl s
  · exact (calm_updEst s c _).trans (calm_requestMeasurement _ c none)

theorem keeps_echoTimeout : Keeps s (s.echoTimeout c) := (keeps_takeEchoTimeout s c).trans (keeps_answered _ c _)

theorem keeps_releaseWindowExpiry : Keeps s (s.releaseWindowExpiry c) := by
  unfold State.releaseWindowExpiry
  split
  · exact .refl s
  · next k hk => exact .ite (keeps_lockHatch hk) (.refl s)

theorem keeps_depositTimerExpiry : Keeps s (s.depositTimerExpiry c) := by
  unfold State.depositTimerExpiry
  split
  · exact .refl s
  · next k hk =>
    split
    · refine Keeps.trans (.updHatch (f := fun h => { h with deposit := none }) ?_ id id (.refl s) fun hs => ?_) (keeps_raiseAt _ _ c _)
      · exact fun _ => rfl
      · exact hs.moveHatch (hatch?_of_container? hk) rfl .rfl
    · exact .refl s

theorem keeps_settleExpiry (a : Actuator) : Keeps s (s.settleExpiry c a) := by
  have hfaulted : Calm s ((s.updContainer c (Container.setFaulted a)).updFlags c fun f => { f with actuatorFault := true }) :=
    (calm_updContainer s c fun k => by cases a <;> rfl).trans (calm_updFlags _ c _)
  have hraised : ∀ body, Keeps s ((((s.updContainer c (Container.setFaulted a)).updFlags c fun f =>
      { f with actuatorFault := true }).blockRequest c .actuator).raiseAt .actuatorFault c body) :=
    fun body => (hfaulted.keeps.trans (keeps_blockRequest _ c _)).trans (keeps_raiseAt _ _ c _)
  unfold State.settleExpiry
  split
  · exact .refl s
  · exact .ite (.ite ((hraised _).trans (keeps_actuatorFaultNotice _ c)) (hraised _)) (.refl s)

/-! ### One change of every station -/

variable {s} in
theorem station?_mapStations {u : State} {f : Station → Station} (hu : u.stations = s.stations.map (Option.map f)) (t : Nat) :
    u.station? t = (s.station? t).map f := by
  unfold State.station?
  rw [hu, List.getElem?_map]
  cases s.stations[t]? <;> rfl

variable {s} in
/-- A change of every station that maps its slots leaves the containers in use, and with the collection list its soundness. -/
theorem listOk_mapStations {u : State} {f : Station → Station} {g : Container → Container} (hu : u.stations = s.stations.map (Option.map f))
    (hf : ∀ st, (f st).slots = st.slots.map g) (hcollection : u.collection = s.collection) (hs : ListOk s) : ListOk u := by
  obtain ⟨hlen, hlisted⟩ := (listOk_iff s).1 hs
  refine (listOk_iff u).2 ⟨by rw [hu, List.length_map, hlen], hcollection.symm ▸ hlisted.congr fun e _ => ?_⟩
  unfold State.container?
  rw [station?_mapStations hu]
  rcases s.station? (e.container / 4) with _ | st
  · rfl
  · simp [hf]

variable {s} in
theorem hatches_mapStations {u : State} {f : Station → Station} {g : Container → Container} {h : HatchRecord → HatchRecord}
    (hu : u.stations = s.stations.map (Option.map f)) (hf : ∀ st, (f st).slots = st.slots.map g) (hg : ∀ k, (g k).hatch = h k.hatch) (t : Nat) :
    (ledger u).hatches t = ((ledger s).hatches t).map (List.map h) := by
  unfold ledger
  dsimp only
  rw [station?_mapStations hu, Option.map_map, Option.map_map]
  congr 1
  funext st
  simp [hf, hg, Function.comp_def]

theorem keeps_clockTick : Keeps s { s.tickTimers with clock := s.clock.tick } where
  tables hs := hs
  list hs := listOk_mapStations (f := fun st => { st with slots := st.slots.map Container.tick }) rfl (fun _ => rfl) rfl hs
  accounts hs := by
    rw [accountsOk_iff] at hs ⊢
    refine hs.mapHatches (g := fun h => { h with window := tickTimer h.window, deposit := tickTimer h.deposit }) rfl rfl (List.length_map ..)
      (hatches_mapStations (f := fun st => { st with slots := st.slots.map Container.tick }) rfl (fun _ => rfl) fun _ => rfl) fun _ => ⟨rfl, rfl⟩

theorem calm_hourBoundary : Calm s s.hourBoundary := by
  have htaken : Calm s { s with clock := { s.clock with boundaryDue := false } } := .of_eq rfl rfl rfl
  unfold State.hourBoundary
  refine .ite (htaken.trans (.each fun d _ u _ => ?_)) (.refl s)
  unfold State.hourOf
  split
  · exact .refl u
  · next x hx =>
    obtain ⟨k, hk, _⟩ := Option.bind_eq_some_iff.1 hx
    have hmeasured := calm_updEst u d (Estimator.stage4 x)
    exact hmeasured.trans (calm_forecastEvaluation _ ((hmeasured.inUse d).trans (by simp [hk])) _)

/-! ### Resets -/

theorem steady_return : Steady fun r => { r with reserved := 0 } := ⟨fun _ => rfl, fun _ hr => { hr with reserved_le := Nat.zero_le _ }⟩

/-- The blocks at a warm start: every reserved count is 0 and every hatch LOCKED with no admission (R74, R112). -/
theorem keeps_warmBlocks : Keeps s s.warmBlocks where
  tables hs := by
    rw [tablesOk_iff] at hs ⊢
    exact ⟨hs.1.map steady_return, hs.2⟩
  list hs := listOk_mapStations (f := Station.warm s.mode) rfl (fun _ => rfl) rfl hs
  accounts hs := by
    rw [accountsOk_iff] at hs ⊢
    have hhatches := hatches_mapStations (u := s.warmBlocks) (s := s) (f := Station.warm s.mode) (h := fun _ => HatchRecord.rest) rfl (fun _ => rfl)
      fun _ => rfl
    refine .of_vacant (List.pairwise_map.2 hs.ascending) (List.forall_mem_map.2 fun _ _ => rfl) (List.forall_mem_map.2 fun r hr hlimited => ?_)
      (List.forall_mem_map.2 hs.weight_pos) (fun c x hx => ?_) (fun t xs hxs => ?_) fun t ht => ?_
    · exact (Nat.le_add_right ..).trans (hs.within r hr hlimited)
    · unfold Ledger.hatch? at hx
      rw [hhatches] at hx
      obtain ⟨xs, hxs, hget⟩ := Option.bind_eq_some_iff.1 hx
      obtain ⟨ys, _, rfl⟩ := Option.map_eq_some_iff.1 hxs
      obtain ⟨_, _, rfl⟩ := Option.map_eq_some_iff.1 ((List.getElem?_map ..).symm.trans hget)
      exact ⟨rfl, rfl⟩
    · rw [hhatches] at hxs
      obtain ⟨ys, hys, rfl⟩ := Option.map_eq_some_iff.1 hxs
      exact (List.length_map ..).trans_le (hs.slots_le t ys hys)
    · rw [hhatches, Option.isSome_map] at ht
      exact (hs.defined_lt t ht).trans_eq (List.length_map ..).symm

theorem keeps_warmStart : Keeps s s.warmStart := by
  have habandoned : Calm s s.abandonActions := by
    refine Calm.trans ?_ (calm_completeActions _)
    exact .of_eq rfl rfl rfl
  have hwarm := (habandoned.keeps.trans (keeps_warmBlocks _)).trans (calm_releaseClaims _).keeps
  have hscheduled := hwarm.trans (.ite (p := (s.abandonActions.warmBlocks.releaseClaims).mode = .configure) (.refl _) (calm_startSchedule _).keeps)
  exact hscheduled.trans (calm_post _ _ _ _ _).keeps

theorem keeps_coldStart : Keeps s { State.reset with pending := s.pending } := by
  have hstation : ∀ t, State.station? { State.reset with pending := s.pending } t = none := fun t => by
    unfold State.station?
    change (List.replicate 16 none)[t]?.join = none
    rw [List.getElem?_replicate]
    split <;> rfl
  have hhatches : ∀ t, (ledger { State.reset with pending := s.pending }).hatches t = none := fun t => congrArg (Option.map _) (hstation t)
  refine ⟨fun _ => ?_, fun _ => ?_, fun _ => ?_⟩
  · exact (tablesOk_iff _).2 ⟨⟨by simp [State.reset], List.Pairwise.nil, by simp [State.reset]⟩, by simp [State.reset], List.Pairwise.nil⟩
  · exact (listOk_iff _).2 ⟨rfl, by simp [State.reset], List.Pairwise.nil, List.Pairwise.nil⟩
  · refine (accountsOk_iff _).2 (.of_vacant List.Pairwise.nil ?_ ?_ ?_ ?_ ?_ ?_)
    · exact fun r hr => absurd hr (List.not_mem_nil)
    · exact fun r hr => absurd hr (List.not_mem_nil)
    · exact fun r hr => absurd hr (List.not_mem_nil)
    · intro c x hx
      simp [Ledger.hatch?, hhatches] at hx
    · intro t hs hhs
      simp [hhatches] at hhs
    · intro t ht
      simp [hhatches] at ht

end

end Sys2Proof.Machine.CardDirectory
end

section
namespace Sys2Proof.Machine.CardDirectory

/-! ### A record put in its place (R65, R76) -/

theorem mem_insertCard {r x : Card} {l : List Card} (h : x ∈ insertCard r l) : x = r ∨ x ∈ l := by
  induction l with
  | nil => exact .inl (List.mem_singleton.1 h)
  | cons y ys ih =>
    unfold insertCard at h
    split_ifs at h
    · exact List.mem_cons.1 h
    · exact (List.mem_cons.1 h).imp_right (List.mem_cons_of_mem y)
    · rcases List.mem_cons.1 h with rfl | h
      · exact .inr (List.mem_cons_self ..)
      · exact (ih h).imp_right (List.mem_cons_of_mem y)

/-- A record put in its place is found under its id, and every other one as before. -/
theorem find?_insertCard (r : Card) (l : List Card) (id : CardId) :
    (insertCard r l).find? (fun x => x.id == id) = if id = r.id then some r else l.find? fun x => x.id == id := by
  induction l with
  | nil =>
    by_cases h : id = r.id
    · simp [insertCard, h]
    · simp [insertCard, h, Ne.symm h]
  | cons y ys ih =>
    unfold insertCard
    by_cases h : id = r.id
    · split_ifs
      · simp [h]
      · simp [h]
      · next hne => simpa [h, hne] using ih
    · split_ifs with hlt heq
      · simp [Ne.symm h]
      · simp [Ne.symm h, heq]
      · by_cases hy : y.id = id
        · simp [hy]
        · simpa [hy, h] using ih

theorem insertCard_ascending {r : Card} {l : List Card} (hl : l.Pairwise fun a b => a.id < b.id) :
    (insertCard r l).Pairwise fun a b => a.id < b.id := by
  induction l with
  | nil => exact List.pairwise_singleton ..
  | cons y ys ih =>
    obtain ⟨hy, hys⟩ := List.pairwise_cons.1 hl
    unfold insertCard
    split_ifs with hlt heq
    · exact List.pairwise_cons.2 ⟨List.forall_mem_cons.2 ⟨hlt, fun z hz => BitVec.lt_trans hlt (hy z hz)⟩, hl⟩
    · exact List.pairwise_cons.2 ⟨fun z hz => heq ▸ hy z hz, hys⟩
    · refine List.pairwise_cons.2 ⟨fun z hz => ?_, ih hys⟩
      rcases mem_insertCard hz with rfl | hz
      · bv_omega
      · exact hy z hz

theorem length_insertCard_le (r : Card) (l : List Card) : (insertCard r l).length ≤ l.length + 1 := by
  induction l with
  | nil => exact le_rfl
  | cons y ys ih =>
    unfold insertCard
    split_ifs <;> simp [ih]

/-- Replacing a record of an ascending list leaves its length. -/
theorem length_insertCard_of_mem {r x : Card} {l : List Card} (hl : l.Pairwise fun a b => a.id < b.id) (hx : x ∈ l) (hid : x.id = r.id) :
    (insertCard r l).length = l.length := by
  induction l with
  | nil => cases hx
  | cons y ys ih =>
    obtain ⟨hy, hys⟩ := List.pairwise_cons.1 hl
    unfold insertCard
    split_ifs with hlt heq
    · exfalso
      rcases List.mem_cons.1 hx with rfl | hx
      · exact BitVec.lt_irrefl _ (hid ▸ hlt)
      · exact BitVec.lt_irrefl _ (BitVec.lt_trans hlt (hid ▸ hy x hx))
    · rfl
    · rcases List.mem_cons.1 hx with rfl | hx
      · exact absurd hid heq
      · exact congrArg (· + 1) (ih hys hx)

/-! ### What a record step stores (R76, R77) -/

/-- What a CARD_PUT record step leaves of a card's used count: the form's, or the stored record's, 0 for a card with none. -/
def usedAfterPut (x : CardForm) (cards : List Card) : Nat :=
  if x.setUsage then x.used else ((cards.find? fun r => r.id == x.id).map Card.used).getD 0

/-- The reserved count that a CARD_PUT record step keeps, 0 for a card with no record. -/
def reservedAt (id : CardId) (cards : List Card) : Nat := ((cards.find? fun r => r.id == id).map Card.reserved).getD 0

/-- The recorded period after a CARD_PUT record step. -/
def periodAfterPut (now : Nat) (x : CardForm) (cards : List Card) : Nat :=
  if x.setUsage then now else ((cards.find? fun r => r.id == x.id).map Card.period).getD now

theorem putResult_eq (x : CardForm) (cards : List Card) : putResult x cards =
    if x.fieldsBad then .range
    else if (cards.find? fun r => r.id == x.id) = none ∧ 8192 ≤ cards.length then .full
    else if x.allowance < 255 ∧ x.allowance < usedAfterPut x cards + reservedAt x.id cards then .range else .ok := by
  unfold putResult usedAfterPut reservedAt
  simp only [Option.isNone_iff_eq_none]
  rfl

theorem putCards_eq (now : Nat) (x : CardForm) (cards : List Card) : putCards now x cards =
    if putResult x cards = .ok then
      insertCard (x.record (usedAfterPut x cards) (reservedAt x.id cards) (periodAfterPut now x cards)) cards
    else cards := by
  unfold putCards usedAfterPut reservedAt periodAfterPut
  refine ite_congr rfl (fun _ => ?_) fun _ => rfl
  rcases hfind : cards.find? fun r => r.id == x.id with _ | r
  · simp [hfind]
  · simp [hfind]

/-- The tests that a form has passed when its record is stored. -/
theorem of_putResult_ok {x : CardForm} {cards : List Card} (h : putResult x cards = .ok) :
    x.fieldsBad = false ∧ ((cards.find? fun r => r.id == x.id) = none → cards.length < 8192) ∧
      (x.allowance < 255 → usedAfterPut x cards + reservedAt x.id cards ≤ x.allowance) := by
  rw [putResult_eq] at h
  split_ifs at h with hbad hfull hover
  exact ⟨by simpa using hbad, fun hnone => Nat.not_le.1 fun hle => hfull ⟨hnone, hle⟩, fun hlt => Nat.not_lt.1 fun hgt => hover ⟨hlt, hgt⟩⟩

/-- The first row of the table of R76, field by field. -/
theorem fieldsBad_iff (x : CardForm) : x.fieldsBad = true ↔
    x.classCode = 3 ∨ x.reservedBits = true ∨ 32 ≤ x.fractionByte.toNat ∨ (x.setUsage = true ∧ 254 < x.used) ∨
      (x.hasWeight = true ∧ ¬(1 ≤ x.weight ∧ x.weight ≤ 4)) ∨ (x.hasExpiry = false ∧ x.expiry ≠ 0) ∨ (x.hasWeight = false ∧ x.weight ≠ 0) := by
  have hrange : ¬(1 ≤ x.weight ∧ x.weight ≤ 4) ↔ x.weight < 1 ∨ 4 < x.weight := by omega
  simp only [CardForm.fieldsBad, Bool.or_eq_true, Bool.and_eq_true, decide_eq_true_eq, Bool.not_eq_true', or_assoc, hrange]

theorem cardOk_record {x : CardForm} {used reserved period : Nat} (hbad : x.fieldsBad = false) (hused : used ≤ 254) (hreserved : reserved ≤ 4) :
    CardOk (x.record used reserved period) := by
  refine ⟨hused, hreserved, fun w hw => ?_, fun hcls => ?_⟩
  · obtain ⟨⟨hhas, _⟩, rfl⟩ : (x.hasWeight = true ∧ x.cls ≠ .crew) ∧ x.weight = w := by simpa [CardForm.record] using hw
    by_contra hw'
    exact absurd ((fieldsBad_iff x).2 (.inr (.inr (.inr (.inr (.inl ⟨hhas, hw'⟩)))))) (by simp [hbad])
  · have : x.cls = .crew := hcls
    simp [CardForm.record, this]

section
variable {cards : List Card}

theorem usedAfterPut_le (hcards : CardsOk cards) {x : CardForm} (hbad : x.fieldsBad = false) : usedAfterPut x cards ≤ 254 := by
  unfold usedAfterPut
  split_ifs with hset
  · by_contra hgt
    exact absurd ((fieldsBad_iff x).2 (.inr (.inr (.inr (.inl ⟨hset, by omega⟩))))) (by simp [hbad])
  · rcases hfind : cards.find? fun r => r.id == x.id with _ | r
    · simp [hfind]
    · simpa [hfind] using (hcards.each r (List.mem_of_find?_eq_some hfind)).used_le

theorem reservedAt_le (hcards : CardsOk cards) (id : CardId) : reservedAt id cards ≤ 4 := by
  unfold reservedAt
  rcases hfind : cards.find? fun r => r.id == id with _ | r
  · simp [hfind]
  · simpa [hfind] using (hcards.each r (List.mem_of_find?_eq_some hfind)).reserved_le

theorem CardsOk.put (h : CardsOk cards) (now : Nat) (x : CardForm) : CardsOk (putCards now x cards) := by
  rw [putCards_eq]
  split
  · next hok =>
    obtain ⟨hbad, hroom, _⟩ := of_putResult_ok hok
    refine ⟨?_, insertCard_ascending h.ascending, fun r hr => ?_⟩
    · rcases hfind : cards.find? fun r => r.id == x.id with _ | r
      · exact (length_insertCard_le _ _).trans (hroom hfind)
      · have hid : r.id = x.id := by simpa using List.find?_some hfind
        exact (length_insertCard_of_mem h.ascending (List.mem_of_find?_eq_some hfind) hid).trans_le h.length_le
    · rcases mem_insertCard hr with rfl | hr
      · exact cardOk_record hbad (usedAfterPut_le h hbad) (reservedAt_le h _)
      · exact h.each r hr
  · exact h

theorem deleteCards_eq_self_or (id : CardId) :
    deleteCards id cards = cards ∨ (reservedAt id cards = 0 ∧ deleteCards id cards = cards.filter fun r => r.id != id) := by
  unfold deleteCards deleteResult reservedAt
  rcases hfind : cards.find? fun r => r.id == id with _ | r
  · exact .inl (by simp [hfind])
  · by_cases hr : 0 < r.reserved
    · exact .inl (by simp [hfind, hr])
    · exact .inr ⟨by simpa [hfind] using hr, by simp [hfind, hr]⟩

theorem CardsOk.delete (h : CardsOk cards) (id : CardId) : CardsOk (deleteCards id cards) := by
  rcases deleteCards_eq_self_or (cards := cards) id with he | ⟨_, he⟩
  · exact he.symm ▸ h
  · rw [he]
    exact ⟨(List.length_filter_le ..).trans h.length_le, h.ascending.filter _, fun r hr => h.each r (List.mem_filter.1 hr).1⟩

end

namespace Ledger.Sound

variable {l : Ledger} (h : l.Sound)
include h

/-- What a record step finds reserved is the open weight of the card. -/
theorem reservedAt_eq (id : CardId) : reservedAt id l.cards = l.openWeight id := by
  unfold reservedAt
  rcases hfind : l.cards.find? fun r => r.id == id with _ | r
  · have hnone : l.openWeight id = 0 := Finset.sum_eq_zero fun c _ => ?_
    · simp [hfind, hnone]
    unfold Ledger.weightAt
    rcases hx : l.hatch? c with _ | x
    · rfl
    · rcases ha : x.admission with _ | a
      · simp [weightOn, ha]
      · obtain ⟨⟨r, hr, hid⟩, _⟩ := h.admission_ok c x a hx ha
        have hne : r.id ≠ id := by simpa using List.find?_eq_none.1 hfind r hr
        simp [weightOn, ha, hid ▸ hne]
  · have hid : r.id = id := by simpa using List.find?_some hfind
    simpa [hfind] using hid ▸ h.reserved_eq r (List.mem_of_find?_eq_some hfind)

theorem put (now : Nat) (x : CardForm) : ({ l with cards := putCards now x l.cards } : Ledger).Sound := by
  rw [putCards_eq]
  split
  · next hok =>
    obtain ⟨hbad, _, hwithin⟩ := of_putResult_ok hok
    refine h.withCards (insertCard_ascending h.ascending) (fun r hr => ?_) (fun r hr => ?_) (fun r hr => ?_) fun r hr _ => ?_
    · rcases mem_insertCard hr with rfl | hr
      · exact h.reservedAt_eq x.id
      · exact h.reserved_eq r hr
    · rcases mem_insertCard hr with rfl | hr
      · exact hwithin
      · exact h.within r hr
    · rcases mem_insertCard hr with rfl | hr
      · exact fun w hw => ((cardOk_record (used := 0) (reserved := 0) (period := 0) hbad (Nat.zero_le _) (Nat.zero_le _)).weight_ok w hw).1
      · exact h.weight_pos r hr
    · have hsome : (l.cards.find? fun y => y.id == r.id).isSome = true := by simpa using ⟨r, hr, rfl⟩
      have hkept : ((insertCard (x.record (usedAfterPut x l.cards) (reservedAt x.id l.cards) (periodAfterPut now x l.cards)) l.cards).find?
          fun y => y.id == r.id).isSome = true := by
        rw [find?_insertCard]
        split
        · rfl
        · exact hsome
      simpa using hkept
  · exact h

theorem delete (id : CardId) : ({ l with cards := deleteCards id l.cards } : Ledger).Sound := by
  rcases deleteCards_eq_self_or (cards := l.cards) id with he | ⟨hfree, he⟩
  · rw [he]; exact h
  · rw [he]
    refine h.withCards (h.ascending.filter _) (fun r hr => h.reserved_eq r (List.mem_filter.1 hr).1) (fun r hr => h.within r (List.mem_filter.1 hr).1)
      (fun r hr => h.weight_pos r (List.mem_filter.1 hr).1) fun r hr hopen => ⟨r, List.mem_filter.2 ⟨hr, ?_⟩, rfl⟩
    have hne : r.id ≠ id := by
      rintro rfl
      rw [← h.reservedAt_eq, hfree] at hopen
      exact absurd hopen (by omega)
    simpa using hne

end Ledger.Sound

/-! ### Edits of the directory and of the watch list -/

section
variable (s : State)

theorem keeps_setCards {cards : List Card} (htables : CardsOk s.directory.cards → CardsOk cards)
    (haccounts : (ledger s).Sound → ({ ledger s with cards := cards } : Ledger).Sound) :
    Keeps s (s.updDirectory fun d => { d with cards := cards }) where
  tables hs := by
    rw [tablesOk_iff] at hs ⊢
    exact ⟨htables hs.1, hs.2⟩
  list hs := hs
  accounts hs := by
    rw [accountsOk_iff] at hs ⊢
    exact haccounts hs

theorem keeps_afterStep (kind : Byte) (e : Edit) : Keeps s (s.afterStep kind e) := by
  have hended : Calm s (s.updDirectory fun d => { d with edit := none }) := .of_eq rfl rfl rfl
  unfold State.afterStep
  exact .ite ((hended.trans (calm_reply _ _ _ _ _)).keeps.trans (keeps_serveWaiting _)) (Calm.keeps (.of_eq rfl rfl rfl))

theorem keeps_putStep : Keeps s s.putStep := by
  unfold State.putStep
  split
  · exact (keeps_setCards s (fun h => h.put _ _) fun h => h.put _ _).trans (keeps_afterStep _ _ _)
  · exact .refl s

theorem keeps_deleteStep : Keeps s s.deleteStep := by
  unfold State.deleteStep
  split
  · exact (keeps_setCards s (fun h => h.delete _) fun h => h.delete _).trans (keeps_afterStep _ _ _)
  · exact .refl s

/-- A new watch list (R84). -/
theorem keeps_setWatch {es : List WatchEntry} (hlen : s.watch.length ≤ 16 → es.length ≤ 16)
    (hdistinct : (s.watch.Pairwise fun a b => a.id ≠ b.id) → es.Pairwise fun a b => a.id ≠ b.id) : Keeps s { s with watch := es } where
  tables hs := by
    rw [tablesOk_iff] at hs ⊢
    exact ⟨hs.1, hlen hs.2.1, hdistinct hs.2.2⟩
  list hs := hs
  accounts hs := hs

theorem watchSetEntries_length {id : CardId} {a : WatchAction} {es : List WatchEntry} (h : es.length ≤ 16) :
    (watchSetEntries id a es).length ≤ 16 := by
  unfold watchSetEntries Config.maxWatch
  split_ifs with _ hfull
  · rwa [List.length_map]
  · exact h
  · rw [List.length_append]
    exact Nat.not_le.1 hfull

theorem watchSetEntries_distinct {id : CardId} {a : WatchAction} {es : List WatchEntry} (h : es.Pairwise fun a b => a.id ≠ b.id) :
    (watchSetEntries id a es).Pairwise fun a b => a.id ≠ b.id := by
  unfold watchSetEntries
  split_ifs with hlisted hfull
  · have hid : ∀ e : WatchEntry, (if e.id == id then { e with action := a } else e).id = e.id := fun e => by split <;> rfl
    exact List.pairwise_map.2 (h.imp fun {x y} hxy => by rwa [hid, hid])
  · exact h
  · refine List.pairwise_append.2 ⟨h, List.pairwise_singleton .., fun e he e' he' => ?_⟩
    rw [List.mem_singleton.1 he']
    exact fun heq => hlisted (List.any_eq_true.2 ⟨e, he, by simpa using heq⟩)

end

end Sys2Proof.Machine.CardDirectory
end

section
namespace Sys2Proof.Machine.CardDirectory

open FillEstimation

/-! ### Taking a request -/

variable {s : State} {p : Port}

/-- A request that passes the tests of R182 fits its kind and the mode. -/
theorem fits_and_inMode_of_refusal {kind : Byte} {ps : List Byte} {r : RequestRule} (h : s.refusal p kind ps = none)
    (hr : requestRule kind = some r) : r.fits ps = true ∧ r.inMode s.mode = true := by
  unfold State.refusal at h
  rw [hr] at h
  dsimp only at h
  split_ifs at h with _ _ hfits _ hmode
  exact ⟨by simpa using hfits, by simpa using hmode⟩

theorem calm_noteActivity (s : State) (p : Port) : Calm s (s.noteActivity p) := .ite (.of_eq rfl rfl rfl) (.refl s)

/-- A request keeps what its owner keeps, in the state that the port hands it. -/
theorem keeps_takeRequest {kind : Byte} {f : Frame} {owner : State → State}
    (howner : ∀ u : State, u.mode = s.mode → s.refusal p kind f.params = none → Keeps u (owner u)) : Keeps s (s.takeRequest p kind f owner) := by
  have hbusy := calm_updPort s p fun q => { q with receiver := .idle, busy := true }
  have hnoted := hbusy.trans (calm_noteActivity _ p)
  have hmode : ((s.updPort p fun q => { q with receiver := .idle, busy := true }).noteActivity p).mode = s.mode := by
    unfold State.noteActivity
    split <;> simp [State.updGrant]
  unfold State.takeRequest
  refine .ite (calm_updPort s p _).keeps (.ite (hbusy.trans (calm_reply _ _ _ _ _)).keeps ?_)
  dsimp only
  rw [refusal_noted]
  split
  · exact ((hnoted.trans (calm_updPort _ p _)).trans (calm_reply _ _ _ _ _)).keeps
  · next hnone =>
    split
    · exact hnoted.keeps.trans (howner _ hmode hnone)
    · refine (hnoted.trans (calm_updPort _ p _)).keeps.trans (howner _ ?_ hnone)
      exact (State.updPort_mode _ _ _).trans hmode

/-- A request that keeps everything in any mode and with any parameters. -/
theorem keeps_request {kind : Byte} {f : Frame} {owner : State → State} (howner : ∀ u, Keeps u (owner u)) : Keeps s (s.takeRequest p kind f owner) :=
  keeps_takeRequest fun u _ _ => howner u

theorem calm_request {kind : Byte} {f : Frame} {owner : State → State} (howner : ∀ u, Calm u (owner u)) : Keeps s (s.takeRequest p kind f owner) :=
  keeps_request fun u => (howner u).keeps

theorem Keeps.reply {u : State} (h : Keeps s u) (kind : Byte) (code : ResultCode) (data : List Byte) : Keeps s (u.reply p kind code data) :=
  h.trans (calm_reply u p kind code data).keeps

theorem Calm.reply {u : State} (h : Calm s u) (kind : Byte) (code : ResultCode) (data : List Byte) : Calm s (u.reply p kind code data) :=
  h.trans (calm_reply u p kind code data)

theorem keeps_onContainer {kind : Byte} {ps : List Byte} {owner : Nat → Container → State → State}
    (howner : ∀ c k, s.container? c = some k → Keeps s (owner c k s)) : Keeps s (s.onContainer p kind ps owner) := by
  unfold State.onContainer
  split
  · next hk => exact howner _ _ hk
  · exact (Keeps.refl s).reply _ _ _
  · exact (Keeps.refl s).reply _ _ _

section
variable (s : State) (p : Port)

/-! ### The directory, the watch list, the events and the flags -/

theorem calm_beginEdit (kind : Byte) (n : Nat) (w : EditWork) : Calm s (s.beginEdit p kind n w) := by
  unfold State.beginEdit
  refine .ite (.reply (.refl s) _ _ _) (.ite (.reply (.refl s) _ _ _) ?_)
  exact .of_eq rfl rfl rfl

theorem cards_setCursor (id : Option CardId) (d : Directory) : (Directory.setCursor p id d).cards = d.cards := by cases p <;> rfl

theorem calm_setCursor (id : Option CardId) : Calm s (s.updDirectory (Directory.setCursor p id)) := by
  refine .of_eq ?_ rfl rfl
  unfold ledger State.updDirectory
  dsimp only
  rw [cards_setCursor]
  rfl

theorem calm_cardGet (id : CardId) : Calm s (s.cardGet p id) := by
  unfold State.cardGet
  refine .ite (.reply (.refl s) _ _ _) ?_
  dsimp only
  split <;> exact (calm_setCursor s p _).reply _ _ _

theorem calm_cardNext (n : Nat) : Calm s (s.cardNext p n) := by
  unfold State.cardNext
  refine .ite (.reply (.refl s) _ _ _) (.ite (.reply (.refl s) _ _ _) ?_)
  dsimp only
  split
  · exact .reply (.refl s) _ _ _
  · exact (calm_setCursor s p _).reply _ _ _

theorem keeps_watchSet (id : CardId) (code : Nat) : Keeps s (s.watchSet p id code) := by
  unfold State.watchSet
  split
  · exact .reply (.refl s) _ _ _
  · exact (keeps_setWatch s watchSetEntries_length watchSetEntries_distinct).reply _ _ _

theorem keeps_watchClear (id : CardId) : Keeps s (s.watchClear p id) := by
  unfold State.watchClear
  refine .ite (.reply (keeps_setWatch s (List.length_filter_le ..).trans fun h => h.filter _) _ _ _) (.reply (.refl s) _ _ _)

theorem calm_setFractionRules (charged period : Nat) : Calm s (s.setFractionRules p charged period) := by
  have hset : Calm s (s.updDirectory fun d => { d with charged := BitVec.ofNat 5 charged, periodLength := period }) := .of_eq rfl rfl rfl
  unfold State.setFractionRules
  exact .ite (.reply (.refl s) _ _ _) (hset.reply _ _ _)

theorem calm_fetchEvents (n : Nat) : Calm s (s.fetchEvents p n) := by
  have hfetched : Calm s { s with report := s.report.fetch s.tuning.attention n } := .of_eq rfl rfl rfl
  unfold State.fetchEvents
  exact .ite (.reply (.refl s) _ _ _) (hfetched.reply _ _ _)

theorem calm_clearFlags (params : List Byte) : Calm s (s.clearFlags p params) := by
  unfold State.clearFlags
  split
  · unfold State.clearContainerFlags
    dsimp only
    exact .ite (.reply (.refl s) _ _ _) (.ite (.reply (.refl s) _ _ _) (.reply (.each fun c _ u _ => calm_updFlags u c _) _ _ _))
  · unfold State.clearStationFlags
    dsimp only
    exact .ite (.reply (.refl s) _ _ _) (.ite (.reply (.refl s) _ _ _) (.reply (.each fun t _ u _ => calm_setStation u t) _ _ _))
  · exact .reply (.refl s) _ _ _

/-! ### Ports and the service port -/

theorem calm_continueReply : Calm s (s.continueReply p) := by
  unfold State.continueReply
  split
  · exact .reply (.refl s) _ _ _
  · exact .reply (calm_updPort s p _) _ _ _

theorem calm_askRestart : Calm s (s.askRestart p) := (calm_reply s p 4 .ok []).trans (calm_updPort _ p _)

theorem calm_updGrant (g : Grant → Grant) : Calm s (s.updGrant g) := .of_eq rfl rfl rfl

theorem calm_endGrant : Calm s s.endGrant := ((calm_updGrant s _).trans (calm_updPort _ .service _)).trans (calm_setCursor _ .service none)

theorem calm_tryUnlock (given : BitVec 64) : Calm s (s.tryUnlock p given) := by
  have hgrant : ∀ g, Calm s (s.updGrant g) := calm_updGrant s
  unfold State.tryUnlock
  refine .ite (.reply (.refl s) _ _ _) ?_
  split
  · exact .reply (.refl s) _ _ _
  · exact .ite (.reply (hgrant _) _ _ _) (.ite (.reply (hgrant _) _ _ _) (.reply ((hgrant _).trans (calm_post _ _ _ _ _)) _ _ _))

theorem keeps_replySent : Keeps s (s.replySent p) := by
  unfold State.replySent
  exact .ite (.refl s) (.ite (keeps_warmStart s) (calm_updPort s p _).keeps)

/-! ### Measurement, hatch control, list and rounds -/

theorem keeps_measureNow (params : List Byte) : Keeps s (s.measureNow p params) :=
  keeps_onContainer fun c _ _ => .ite (.reply (.refl s) _ _ _) (.ite (.reply (.refl s) _ _ _)
    ((calm_requestMeasurement s c none).keeps.reply _ _ _))

theorem keeps_forceLock (params : List Byte) : Keeps s (s.forceLock p params) := by
  refine keeps_onContainer fun c k hk => .ite (.reply (.refl s) _ _ _) (.reply ?_ _ _ _)
  obtain ⟨k', hk'⟩ : ∃ k', (s.withdraw c).container? c = some k' :=
    Option.isSome_iff_exists.1 ((inUse_of_gauges (gauges_withdraw s c) c).trans (by simp [hk]))
  exact (keeps_withdraw s c).trans (keeps_moveHatch hk' rfl .rfl)

/-- A force release begins at a LOCKED hatch outside CONFIGURE (R109). -/
theorem keeps_forceRelease (hmode : s.mode ≠ .configure) (params : List Byte) : Keeps s (s.forceRelease p params) := by
  refine keeps_onContainer fun c k hk => ?_
  split_ifs with _ _ hlocked
  · exact .reply (.refl s) _ _ _
  · exact .reply (.refl s) _ _ _
  · exact .reply (.refl s) _ _ _
  · exact .reply (.refl s) _ _ _
  · refine .reply (.changeHatch id id (calm_changeImage s c _) fun hs => ?_) _ _ _
    have hc := hatch?_of_container? hk
    exact hs.vacate hc (hs.admission_eq_none hc (not_not.1 hlocked)) rfl (.inr (.inr hmode))

theorem keeps_forceCancel (params : List Byte) : Keeps s (s.forceCancel p params) :=
  keeps_onContainer fun c _ _ => .reply (keeps_cancelForce s c) _ _ _

theorem keeps_listAdd (params : List Byte) : Keeps s (s.listAdd p params) :=
  keeps_onContainer fun _ _ hk => .reply (calm_insertionRequest s (Option.isSome_of_mem hk) _ _).keeps _ _ _

theorem keeps_listRemove (params : List Byte) : Keeps s (s.listRemove p params) := by
  refine keeps_onContainer fun c _ _ => ?_
  split
  · exact .reply (.refl s) _ _ _
  · exact .ite (.reply (.refl s) _ _ _) (.reply (calm_unlist s c).keeps _ _ _)

/-- A round's opening claims entries and moves none. -/
theorem calm_openRound (stations : StationSet) (k : Nat) : Calm s (s.openRound stations k) :=
  .of_collection rfl rfl fun h => h.map fun e => by split <;> rfl

theorem calm_roundOpen (k selector set : Nat) : Calm s (s.roundOpen p k selector set) := by
  unfold State.roundOpen
  exact .ite (.reply (.refl s) _ _ _) (.ite (.reply (.refl s) _ _ _) (.ite (.reply (.refl s) _ _ _)
    (.ite (.reply (.refl s) _ _ _) (.reply (calm_openRound s _ k) _ _ _))))

theorem keeps_abandonOperations : Keeps s s.abandonOperations := by
  refine .each (fun c u => ?_) s
  unfold State.abandonAtClose
  split
  · exact keeps_finish u _ _
  · exact .refl u

theorem calm_endRound : Calm s s.endRound := (calm_releaseClaims s).trans (.of_eq rfl rfl rfl)

theorem keeps_roundClose : Keeps s (s.roundClose p) := by
  unfold State.roundClose
  exact .ite (.reply (.refl s) _ _ _) (.ite (.reply (.refl s) _ _ _)
    (.reply ((keeps_abandonOperations s).trans (calm_endRound _).keeps) _ _ _))

theorem keeps_liftStart (params : List Byte) : Keeps s (s.liftStart p params) := by
  refine keeps_onContainer fun _ _ hk => ?_
  dsimp only
  split
  · exact .reply (.refl s) _ _ _
  · exact .reply (keeps_start s (Option.isSome_of_mem hk) _) _ _ _

theorem keeps_unblock (params : List Byte) : Keeps s (s.unblock p params) :=
  keeps_onContainer fun c _ _ => .reply (calm_updContainer s c).keeps _ _ _

/-! ### Setting up -/

theorem calm_stationRead (t : Nat) : Calm s (s.stationRead p t) := by
  unfold State.stationRead
  exact .ite (.reply (.refl s) _ _ _) (.ite (.reply (.refl s) _ _ _) (.reply (.refl s) _ _ _))

theorem keeps_containerSetup (params : List Byte) : Keeps s (s.containerSetup p params) :=
  keeps_onContainer fun c _ _ => .ite (.reply (calm_updContainer s c).keeps _ _ _) (.reply (.refl s) _ _ _)

theorem keeps_containerRead (params : List Byte) : Keeps s (s.containerRead p params) := keeps_onContainer fun _ _ _ => .reply (.refl s) _ _ _

theorem calm_clockRequest (day second : Nat) : Calm s (s.clockRequest p day second) := by
  have hclock : Calm s { s with clock := { s.clock with day := day, second := second, unset := false } } := .of_eq rfl rfl rfl
  have hset : Calm s (s.setClock day second) :=
    hclock.trans (.each fun c _ u _ => calm_updContainer u c fun k => by unfold Container.clockSet; split <;> rfl)
  unfold State.clockRequest
  exact .ite (.reply (.refl s) _ _ _) (hset.reply _ _ _)

theorem calm_setInputs (params : List Byte) : Calm s (s.setInputs p params) := by
  unfold State.setInputs
  split
  · exact .reply (.refl s) _ _ _
  · split
    · exact .reply (calm_setStation s _) _ _ _
    · exact .reply (.refl s) _ _ _

theorem calm_setMask (t mask : Nat) : Calm s (s.setMask p t mask) := by
  have hmasked : Calm s (s.remask t mask) := .each fun c _ u _ => calm_updContainer u c
  have hchanged : Calm s (s.changeMask t mask) := (hmasked.trans (calm_evaluate _ t)).trans (.each fun c _ u _ => calm_followParts u c)
  unfold State.setMask
  split
  · exact .reply (.refl s) _ _ _
  · exact .ite (.reply (.refl s) _ _ _) (hchanged.reply _ _ _)

theorem calm_bindEvent (cls enable priority action : Nat) : Calm s (s.bindEvent p cls enable priority action) := by
  have hbound : ∀ bs, Calm s { s with bindings := bs } := fun _ => .of_eq rfl rfl rfl
  unfold State.bindEvent
  split
  · exact .ite (.reply (.refl s) _ _ _) ((hbound _).reply _ _ _)
  · exact .reply (.refl s) _ _ _

theorem calm_tune (pairs : List (Nat × Nat)) : Calm s (s.tune p pairs) := by
  have htuned : Calm s (State.followAttn { s with tuning := s.tuning.apply pairs }) := .of_eq rfl rfl rfl
  unfold State.tune
  exact .ite (.reply (.refl s) _ _ _) (htuned.reply _ _ _)

end

end Sys2Proof.Machine.CardDirectory
end

section
namespace Sys2Proof.Machine.CardDirectory

/-! ### Modes (R189 to R191) -/

/-- Every hatch is LOCKED. -/
def Ledger.AllLocked (l : Ledger) : Prop := ∀ c h, l.hatch? c = some h → h.state = .locked

theorem Ledger.AllLocked.setHatch {l : Ledger} (h : l.AllLocked) {c : Nat} {f : HatchRecord → HatchRecord}
    (hf : ∀ x, l.hatch? c = some x → (f x).state = .locked) : (l.setHatch c f).AllLocked := by
  intro d x hx
  rw [hatch?_setHatch] at hx
  split at hx
  · obtain ⟨y, hy, rfl⟩ := Option.map_eq_some_iff.1 hx
    exact hf y hy
  · exact h d x hx

section
variable {s : State}

theorem ledger_changeHatch (s : State) (c : Nat) (f : HatchRecord → HatchRecord) : ledger (s.changeHatch c f) = (ledger s).setHatch c f :=
  (calm_changeHatch s c f).ledger_eq.trans (ledger_updHatch s c fun _ => rfl)

/-- At a LOCKED hatch a force state's end moves nothing (R111). -/
theorem allLocked_cancelForce (h : (ledger s).AllLocked) (c : Nat) : (ledger (s.cancelForce c)).AllLocked := by
  unfold State.cancelForce
  split
  · exact h
  · next k hk =>
    have hlocked := h c k.hatch (hatch?_of_container? hk)
    have hmoved : ∀ f : HatchRecord → HatchRecord, (∀ x, (f x).state = x.state) → (ledger (s.changeHatch c f)).AllLocked := fun f hf => by
      rw [ledger_changeHatch]
      exact h.setHatch fun x hx => (hf x).trans (h c x hx)
    split
    · exact h
    · exact hmoved _ fun _ => rfl
    · next hreleased =>
      rw [hlocked] at hreleased
      cases hreleased
    · exact hmoved _ fun _ => rfl

theorem keeps_cancelForces (s : State) : Keeps s s.cancelForces := .each (fun c u => keeps_cancelForce u c) s

theorem allLocked_cancelForces (h : (ledger s).AllLocked) : (ledger s.cancelForces).AllLocked :=
  forEach_induction (P := fun u => (ledger u).AllLocked) (fun c _ _ hu => allLocked_cancelForce hu c) h

/-- With nothing in the way of CONFIGURE, every hatch is LOCKED (R191). -/
theorem allLocked_of_configureBar (hs : (ledger s).Sound) (hbar : s.configureBar = none) : (ledger s).AllLocked := by
  have hslots : ∀ t st, s.station? t = some st → st.slots.length ≤ 4 := fun t st hst => by
    simpa using hs.slots_le t (st.slots.map Container.hatch) (by simp [ledger, hst])
  have hany : (s.containersInUse.any fun c => s.ofContainer c false fun k => k.hatch.state != .locked) = false := by
    unfold State.configureBar at hbar
    split_ifs at hbar with hany
    simpa using hany
  intro c h hc
  obtain ⟨k, hk, rfl⟩ := Option.map_eq_some_iff.1 ((hatch?_ledger s c).symm.trans hc)
  have := List.any_eq_false.1 hany c ((mem_containersInUse hslots).2 (by simp [hk]))
  simpa [State.ofContainer, hk] using this

/-- Only CONFIGURE asks for LOCKED hatches. -/
theorem keeps_withMode (s : State) {m : Mode} (hm : m ≠ .configure) : Keeps s { s with mode := m } where
  tables hs := hs
  list hs := hs
  accounts hs := by
    rw [accountsOk_iff] at hs ⊢
    exact hs.withMode m fun h => absurd h hm

theorem keeps_enterConfigure (hbar : s.configureBar = none) : Keeps s s.enterConfigure := by
  have hforces : Keeps s (if s.mode = .supervise then s.cancelForces else s) := .ite (keeps_cancelForces s) (.refl s)
  have hledger : ledger s.enterConfigure = { ledger (if s.mode = .supervise then s.cancelForces else s) with mode := .configure } := by
    have hhatches := funext (hatches_mapStations (u := s.enterConfigure) (f := Station.enterConfigure) (h := id) rfl (fun _ => rfl) fun _ => rfl)
    calc ledger s.enterConfigure
        = { ledger (if s.mode = .supervise then s.cancelForces else s) with
            mode := .configure
            records := (ledger s.enterConfigure).records
            hatches := (ledger s.enterConfigure).hatches } := rfl
      _ = { ledger (if s.mode = .supervise then s.cancelForces else s) with mode := .configure } := by
        rw [hhatches]
        simp [ledger, State.enterConfigure]
  refine ⟨fun hs => hforces.tables hs, fun hs => ?_, fun hs => ?_⟩
  · exact listOk_mapStations (f := Station.enterConfigure) rfl (fun _ => rfl) rfl (hforces.list hs)
  · have hlocked := allLocked_of_configureBar ((accountsOk_iff s).1 hs) hbar
    rw [accountsOk_iff, hledger]
    refine ((accountsOk_iff _).1 (hforces.accounts hs)).withMode _ fun _ => ?_
    exact iteInduction (motive := fun u : State => (ledger u).AllLocked) (fun _ => allLocked_cancelForces hlocked) fun _ => hlocked

theorem calm_leaveConfigureAt (s : State) (t : Nat) : Calm s (s.leaveConfigureAt t) := by
  unfold State.leaveConfigureAt
  split
  · exact .ite (Calm.trans (.each fun c _ u _ => calm_updContainer u c) (calm_setStation _ t)) (.refl s)
  · exact .refl s

theorem keeps_leaveConfigure (s : State) {target : Mode} (hm : target ≠ .configure) : Keeps s (s.leaveConfigure target) := by
  have hlatched : Calm { s with mode := target }
      (forEach s.containersInUse (fun c => State.updContainer c Container.latch) { s with mode := target }) :=
    .each fun c _ u _ => calm_updContainer u c
  exact (keeps_withMode s hm).trans ((hlatched.trans (calm_startSchedule _)).trans (.each fun t _ u _ => calm_leaveConfigureAt u t)).keeps

theorem keeps_setMode (s : State) (p : Port) (code : Nat) : Keeps s (s.setMode p code) := by
  unfold State.setMode
  split
  · exact .reply (.refl s) _ _ _
  · split
    · exact .reply (.refl s) _ _ _
    · next hne =>
      split
      · next hmode _ =>
        split
        · exact .reply (.refl s) _ _ _
        · exact .reply (keeps_leaveConfigure s fun ht => hne (hmode.trans ht.symm)) _ _ _
      · split
        · exact .reply (.refl s) _ _ _
        · next hbar => exact .reply (keeps_enterConfigure hbar) _ _ _
      · next hother _ => exact .reply ((keeps_withMode s hother).trans (keeps_cancelForces _)) _ _ _
      · next hother _ => exact .reply (keeps_withMode s hother) _ _ _

/-! ### Definitions (R2, R3) -/

theorem calm_dropContainer (s : State) (c : Nat) : Calm s (s.dropContainer c) := (calm_unlist s c).trans (calm_updParts _ c _)

theorem calm_dropContainers (s : State) (t n : Nat) : Calm s (s.dropContainers t n) := .each fun c _ u _ => calm_dropContainer u c

theorem collection_dropContainer (s : State) (c : Nat) : (s.dropContainer c).collection = s.collection.filter fun e => e.container != c :=
  (onlyActions_updParts (s.unlist c) c PartState.giveUp).collection

/-- Containers that cease to exist have no entry left (R113). -/
theorem container_not_mem_of_dropped {ns : List Nat} {e : Entry} (he : e ∈ (forEach ns State.dropContainer s).collection) :
    e.container ∉ ns := by
  have hless : ∀ (ms : List Nat) (u : State), e ∈ (forEach ms State.dropContainer u).collection → e ∈ u.collection ∧ e.container ∉ ms := by
    intro ms
    induction ms with
    | nil => exact fun u hu => ⟨hu, List.not_mem_nil⟩
    | cons m ms ih =>
      intro u hu
      obtain ⟨hkept, hms⟩ := ih _ hu
      rw [collection_dropContainer] at hkept
      obtain ⟨hin, hm⟩ := List.mem_filter.1 hkept
      exact ⟨hin, by simpa [hms] using hm⟩
  exact (hless ns s he).2

/-- A container in use below slot `n` of its station is none of those from slot `n` on. -/
theorem slot_lt_of_not_dropped {c n : Nat} (hc : (s.container? c).isSome = true) (hnot : c ∉ (s.containersAt (c / 4)).drop n) : c % 4 < n := by
  by_contra hge
  unfold State.container? at hc
  unfold State.containersAt at hnot
  rcases hst : s.station? (c / 4) with _ | st
  · simp [hst] at hc
  · simp only [hst, isSome_getElem?] at hc hnot
    refine hnot (List.mem_iff_getElem?.2 ⟨c % 4 - n, ?_⟩)
    rw [List.getElem?_drop, Nat.add_sub_cancel' (Nat.not_lt.1 hge), List.getElem?_map, List.getElem?_range hc]
    exact congrArg some (Nat.div_add_mod c 4)

end

namespace Ledger.Sound

variable {l : Ledger} (h : l.Sound) (hmode : l.mode = .configure)
include h hmode

theorem vacant {c : Nat} {x : HatchRecord} (hx : l.hatch? c = some x) : x.state = .locked ∧ x.admission = none :=
  ⟨h.locked hmode c x hx, h.admission_eq_none hx (h.locked hmode c x hx)⟩

/-- A station's hatches are replaced in CONFIGURE by others that are LOCKED with no admission. -/
theorem define {t : Nat} {o : Option (List HatchRecord)} (ht : t < l.records) (hlen : ∀ hs ∈ o, hs.length ≤ 4)
    (ho : ∀ hs ∈ o, ∀ x ∈ hs, x.state = .locked ∧ x.admission = none) :
    ({ l with hatches := fun u => if u = t then o else l.hatches u } : Ledger).Sound := by
  have hclosed : ∀ id, l.openWeight id = 0 := fun id => Finset.sum_eq_zero fun c _ => by
    unfold Ledger.weightAt
    rcases hx : l.hatch? c with _ | x
    · rfl
    · simp [weightOn, (h.vacant hmode hx).2]
  refine .of_vacant h.ascending (fun r hr => (h.reserved_eq r hr).trans (hclosed _)) (fun r hr hlimited => ?_) h.weight_pos (fun c x hx => ?_)
    (fun u hs hhs => ?_) fun u hu => ?_
  · exact (Nat.le_add_right ..).trans (h.within r hr hlimited)
  · obtain ⟨hs, hhs, hget⟩ := Option.bind_eq_some_iff.1 hx
    dsimp only at hhs
    split at hhs
    · exact ho hs hhs x (List.mem_of_getElem? hget)
    · exact h.vacant hmode (c := c) (Option.bind_eq_some_iff.2 ⟨hs, hhs, hget⟩)
  · dsimp only at hhs
    split at hhs
    · exact hlen hs hhs
    · exact h.slots_le u hs hhs
  · dsimp only at hu
    split at hu
    · next hut => exact hut ▸ ht
    · exact h.defined_lt u hu

end Ledger.Sound

section
variable {s : State}

/-- A station's record is replaced in CONFIGURE, after the containers it loses have ceased to exist: the hatch records of the new slots rest or are
those of containers in use. -/
theorem keeps_replaceStation {t n : Nat} {o : Option Station} (hmode : s.mode = .configure) (ht : t < 16)
    (hkept : n ≤ ((o.map Station.slots).getD []).length) (hlen : ∀ st ∈ o, st.slots.length ≤ 4)
    (hhatch : ∀ st ∈ o, ∀ k ∈ st.slots, k.hatch = .rest ∨ ∃ c, (s.container? c).map Container.hatch = some k.hatch) :
    Keeps s ((s.dropContainers t n).setStation t o) := by
  have hdropped := calm_dropContainers s t n
  have hledger := hdropped.ledger_eq
  refine ⟨hdropped.keeps.tables, fun hs => ?_, fun hs => ?_⟩
  · obtain ⟨hrecords, hlisted⟩ := (listOk_iff _).1 (hdropped.listOk hs)
    refine (listOk_iff _).2 ⟨(List.length_set ..).trans hrecords, hlisted.congr fun e he => ?_⟩
    have hinUse := hlisted.inUse e he
    rw [hinUse]
    unfold State.container?
    rw [State.station?_setStation _ _ _ _ (hrecords.symm ▸ ht)]
    split_ifs with hst
    · have hslot : e.container % 4 < n :=
        slot_lt_of_not_dropped ((hdropped.inUse _).symm.trans hinUse) (hst.symm ▸ container_not_mem_of_dropped he)
      rcases o with _ | st
      · exact absurd (hslot.trans_le hkept) (Nat.not_lt_zero _)
      · simpa using hslot.trans_le hkept
    · exact hinUse
  · rw [accountsOk_iff] at hs ⊢
    have hmode' : (ledger s).mode = .configure := hmode
    have hrecords : (ledger ((s.dropContainers t n).setStation t o)).records = (ledger s).records :=
      (List.length_set ..).trans (congrArg Ledger.records hledger)
    by_cases hlt : t < (ledger s).records
    · have hnew : ledger ((s.dropContainers t n).setStation t o) =
          { ledger s with hatches := fun u => if u = t then o.map fun st => st.slots.map Container.hatch else (ledger s).hatches u } := by
        have hhatches : (ledger ((s.dropContainers t n).setStation t o)).hatches =
            fun u => if u = t then o.map fun st => st.slots.map Container.hatch else (ledger (s.dropContainers t n)).hatches u := by
          funext u
          unfold ledger
          dsimp only
          rw [State.station?_setStation _ _ _ _ (hlt.trans_eq (congrArg Ledger.records hledger).symm)]
          split <;> rfl
        calc ledger ((s.dropContainers t n).setStation t o)
            = { ledger (s.dropContainers t n) with
                records := (ledger ((s.dropContainers t n).setStation t o)).records
                hatches := (ledger ((s.dropContainers t n).setStation t o)).hatches } := rfl
          _ = _ := by rw [hhatches, hrecords, hledger]
      rw [hnew]
      refine hs.define hmode' hlt (fun xs hxs => ?_) fun xs hxs x hx => ?_
      · obtain ⟨st, hst, rfl⟩ := Option.map_eq_some_iff.1 hxs
        exact (List.length_map ..).trans_le (hlen st hst)
      · obtain ⟨st, hst, rfl⟩ := Option.map_eq_some_iff.1 hxs
        obtain ⟨k, hk, rfl⟩ := List.mem_map.1 hx
        rcases hhatch st hst k hk with hrest | ⟨c, hc⟩
        · rw [hrest]; exact ⟨rfl, rfl⟩
        · exact hs.vacant hmode' (c := c) ((hatch?_ledger s c).trans hc)
    · have hsame : (s.dropContainers t n).setStation t o = s.dropContainers t n := by
        have : (s.dropContainers t n).stations.length ≤ t := (congrArg Ledger.records hledger).trans_le (Nat.not_lt.1 hlt)
        unfold State.setStation
        rw [List.set_eq_of_length_le this]
      rw [hsame, hledger]
      exact hs

theorem slotsFor_length (fs : List Fraction) (ks : List Container) : (slotsFor fs ks).length = fs.length := by
  induction fs generalizing ks with
  | nil => rfl
  | cons f fs ih => cases ks <;> exact congrArg (· + 1) (ih _)

theorem fractionsOf_length {codes : List Byte} {fs : List Fraction} (h : fractionsOf codes = some fs) : fs.length = codes.length := by
  induction codes generalizing fs with
  | nil => obtain rfl := Option.some.inj h; rfl
  | cons b bs ih =>
    unfold fractionsOf at h
    split at h
    · next fs' _ hfs' =>
      obtain rfl := Option.some.inj h
      exact congrArg (· + 1) (ih hfs')
    · cases h

theorem keeps_removeStation (hmode : s.mode = .configure) {t : Nat} (ht : t < 16) : Keeps s (s.removeStation t) := by
  have hremoved : Keeps s ((s.dropContainers t 0).setStation t none) := keeps_replaceStation hmode ht (Nat.zero_le _) (by simp) (by simp)
  exact hremoved.trans (.ite (calm_endVisit _).keeps (.refl _))

theorem keeps_defineStation (hmode : s.mode = .configure) {t : Nat} (ht : t < 16) (node : Nat) {fs : List Fraction} (hfs : fs.length ≤ 4) :
    Keeps s (s.defineStation t node fs) := by
  refine keeps_replaceStation hmode ht (slotsFor_length fs _).ge (fun st hst => ?_) fun st hst k hk => ?_
  · obtain rfl := Option.some.inj hst
    exact (slotsFor_length fs _).trans_le hfs
  · obtain rfl := Option.some.inj hst
    obtain ⟨i, hi⟩ := List.mem_iff_getElem?.1 hk
    have hlt : i < 4 := ((List.getElem?_eq_some_iff.1 hi).1.trans_eq (slotsFor_length fs _)).trans_le hfs
    obtain ⟨f, rfl | ⟨k', hk', rfl⟩⟩ := getElem?_slotsFor hi
    · exact .inl rfl
    · refine .inr ⟨4 * t + i, ?_⟩
      rcases hold : s.station? t with _ | old
      · simp [hold] at hk'
      · have hdiv : (4 * t + i) / 4 = t := by omega
        have hmod : (4 * t + i) % 4 = i := by omega
        have hk'' : old.slots[i]? = some k' := by simpa [hold] using hk'
        simp [State.container?, hdiv, hmod, hold, hk'', Container.redefine]

theorem keeps_stationDefine (hmode : s.mode = .configure) (p : Port) (t node : Nat) {count : Nat} {codes : List Byte} (hcodes : codes.length = count) :
    Keeps s (s.stationDefine p t node count codes) := by
  unfold State.stationDefine
  split
  · exact .reply (.refl s) _ _ _
  · next hbound =>
    have ht : t < 16 := by omega
    refine .ite (.reply (keeps_removeStation hmode ht) _ _ _) (.ite (.reply (.refl s) _ _ _) ?_)
    split
    · exact .reply (.refl s) _ _ _
    · next fs hfs =>
      have hlen : fs.length ≤ 4 := (fractionsOf_length hfs).trans_le (by omega)
      exact .ite (.reply (.refl s) _ _ _) (.reply (keeps_defineStation hmode ht node hlen) _ _ _)

end

end Sys2Proof.Machine.CardDirectory
end

section
namespace Sys2Proof.Machine.CardDirectory

/-! ### O4 and O7: every command keeps the tables, the list and the accounts -/

/-- Every command keeps the tables, the list and the accounts. -/
theorem exec_keeps {s t : State} (i : Instr) (hi : exec i s = .next t) : Keeps s t := by
  cases i <;> obtain rfl := Host.Outcome.next.inj hi
  case coldStart => exact keeps_coldStart s
  case warmStart => exact keeps_warmStart s
  case clockTick => exact keeps_clockTick s
  case hourBoundary => exact (calm_hourBoundary s).keeps
  case stationVisit => exact (calm_stationVisit s).keeps
  case pollReply bytes => exact keeps_pollReply s bytes
  case pollReplyInvalid => exact keeps_missVisit s
  case busByteGapTimeout => exact keeps_missVisit s
  case pollReplyTimeout => exact keeps_missVisit s
  case lampHoldExpiry c => exact (calm_lampHoldExpiry s c).keeps
  case periodicTimerExpiry c => exact (calm_periodicExpiry s c).keeps
  case postDepositTimerExpiry c => exact (calm_postDepositExpiry s c).keeps
  case echoTimeout c => exact keeps_echoTimeout s c
  case releaseWindowExpiry c => exact keeps_releaseWindowExpiry s c
  case depositTimerExpiry c => exact keeps_depositTimerExpiry s c
  case liftWaitExpiry c => exact .ite (keeps_endOperation s c _) (.refl s)
  case liftedTimerExpiry c => exact .ite (keeps_endOperation s c _) (.refl s)
  case attemptTimerExpiry c => exact .ite (keeps_attempt s c) (.refl s)
  case settleWindowExpiry c a => exact keeps_settleExpiry s c a
  case confirmationWindowExpiry place c =>
    have hexpired : Calm s { s with actions := s.actions.modify place (HeldAction.updPart c PartState.expire) } := .of_eq rfl rfl rfl
    exact (hexpired.trans (calm_completeActions _)).keeps
  case cardPut p f => exact calm_request fun u => calm_beginEdit u p _ _ _
  case cardPutRecordStep => exact keeps_putStep s
  case cardDelete p f => exact calm_request fun u => calm_beginEdit u p _ _ _
  case cardDeleteRecordStep => exact keeps_deleteStep s
  case cardGet p f => exact calm_request fun u => calm_cardGet u p _
  case cardNext p f => exact calm_request fun u => calm_cardNext u p _
  case watchSet p f => exact keeps_request fun u => keeps_watchSet u p _ _
  case watchClear p f => exact keeps_request fun u => keeps_watchClear u p _
  case watchList p f => exact calm_request fun u => calm_reply u p _ _ _
  case fractionRules p f => exact calm_request fun u => calm_setFractionRules u p _ _
  case stationDefine p f =>
    refine keeps_takeRequest fun u hmode hnone => ?_
    obtain ⟨hfits, hin⟩ := fits_and_inMode_of_refusal hnone (by rfl)
    have hconfigure : s.mode = .configure := by
      revert hin
      cases s.mode <;> simp [configureOnly, RequestRule.inMode]
    have hlength : 3 ≤ f.params.length ∧ f.params.length = 3 + byteAt f.params 2 := by simpa [configureOnly] using hfits
    exact keeps_stationDefine (hmode.trans hconfigure) p _ _ (by rw [List.length_drop]; omega)
  case stationRead p f => exact calm_request fun u => calm_stationRead u p _
  case containerSetup p f => exact keeps_request fun u => keeps_containerSetup u p _
  case containerRead p f => exact keeps_request fun u => keeps_containerRead u p _
  case measureNow p f => exact keeps_request fun u => keeps_measureNow u p _
  case setClock p f => exact calm_request fun u => calm_clockRequest u p _ _
  case forceLock p f => exact keeps_request fun u => keeps_forceLock u p _
  case forceRelease p f =>
    refine keeps_takeRequest fun u hmode hnone => keeps_forceRelease u p (fun hconfigure => ?_) _
    obtain ⟨_, hin⟩ := fits_and_inMode_of_refusal hnone (by rfl)
    rw [hmode.symm.trans hconfigure] at hin
    cases hin
  case forceCancel p f => exact keeps_request fun u => keeps_forceCancel u p _
  case listAdd p f => exact keeps_request fun u => keeps_listAdd u p _
  case listRemove p f => exact keeps_request fun u => keeps_listRemove u p _
  case listRead p f => exact calm_request fun u => calm_reply u p _ _ _
  case roundOpen p f => exact calm_request fun u => calm_roundOpen u p _ _ _
  case roundClose p f => exact keeps_request fun u => keeps_roundClose u p
  case liftStart p f => exact keeps_request fun u => keeps_liftStart u p _
  case unblock p f => exact keeps_request fun u => keeps_unblock u p _
  case integrityMask p f => exact calm_request fun u => calm_setMask u p _ _
  case inputSetup p f => exact calm_request fun u => calm_setInputs u p _
  case eventBinding p f => exact calm_request fun u => calm_bindEvent u p _ _ _ _
  case eventsFetch p f => exact calm_request fun u => calm_fetchEvents u p _
  case flagsClear p f => exact calm_request fun u => calm_clearFlags u p _
  case tuning p f => exact calm_request fun u => calm_tune u p _
  case ident p f => exact calm_request fun u => calm_reply u p _ _ _
  case status p f => exact calm_request fun u => calm_reply u p _ _ _
  case restart p f => exact calm_request fun u => calm_askRestart u p
  case setModeConfigure p f => exact keeps_request fun u => keeps_setMode u p _
  case setModeOperate p f => exact keeps_request fun u => keeps_setMode u p _
  case setModeSupervise p f => exact keeps_request fun u => keeps_setMode u p _
  case continueSegment p f => exact calm_request fun u => calm_continueReply u p
  case unknownRequestKind p kind f => exact calm_request fun u => calm_reply u p _ _ _
  case busyFrameDiscard p body => exact (calm_updPort s p _).keeps
  case frameLengthInvalid p n => exact (calm_updPort s p _).keeps
  case frameGapTimeout p => exact (calm_updPort s p _).keeps
  case replySent p => exact keeps_replySent s p
  case unlock p f => exact calm_request fun u => calm_tryUnlock u p _
  case serviceEnd p f => exact calm_request fun u => (calm_reply u p _ _ _).trans (calm_endGrant _)
  case inactivityTimerExpiry => exact .ite (calm_endGrant s).keeps (.refl s)
  case serviceClear p f => exact calm_request fun u => (calm_updGrant u _).reply _ _ _
  case serviceCode p f => exact calm_request fun u => (calm_updGrant u _).reply _ _ _

/-- An idle step keeps the state, and every other step is a command's. -/
theorem step_keeps {s t : State} (h : step s = .next t) : Keeps s t := by
  unfold step at h
  split at h
  · exact Host.Outcome.next.inj h ▸ .refl s
  · next i rest _ =>
    have htaken : Calm s { s with pending := rest } := .of_eq rfl rfl rfl
    exact htaken.keeps.trans (exec_keeps i h)

/-- Settles O4, from `step_keeps`: every command's owner keeps the tables and the list. -/
theorem tablesAndListKept : Obligations.TablesAndListKept :=
  ⟨fun _ _ hs h => (step_keeps h).tables hs, fun _ _ hs h => (step_keeps h).list hs⟩

/-- Settles O7, from `step_keeps`, the accounts being read from the ledger (`accountsOk_iff`). -/
theorem accountsKept : Obligations.AccountsKept := fun _ _ hs h => (step_keeps h).accounts hs

end Sys2Proof.Machine.CardDirectory
end

section
namespace Sys2Proof.Machine.CardDirectory

open FillEstimation

/-! ### Bytes of a request -/

theorem byteAt_cons_succ (b : Byte) (ps : List Byte) (i : Nat) : byteAt (b :: ps) (i + 1) = byteAt ps i := rfl

theorem length_bytesOf (k n : Nat) : (bytesOf k n).length = k := by
  induction k with
  | zero => rfl
  | succ k ih => exact congrArg (· + 1) ih

theorem numberOf_bytesOf {k n : Nat} (hn : n < 256 ^ k) : numberOf (bytesOf k n) = n := by
  have hfold : ∀ k a, (bytesOf k n).foldl (fun m b => 256 * m + b.toNat) a = a * 256 ^ k + n % 256 ^ k := by
    intro k
    induction k with
    | zero => intro a; simp [bytesOf, Nat.mod_one]
    | succ k ih =>
      intro a
      rw [bytesOf, List.foldl_cons, ih, byteOf_toNat, Nat.mod_pow_succ, Nat.pow_succ]
      ring
  unfold numberOf
  rw [hfold, Nat.mod_eq_of_lt hn, Nat.zero_mul, Nat.zero_add]

theorem cardIdAt_bytesOf (id : CardId) (ps : List Byte) : cardIdAt (bytesOf 7 id.toNat ++ ps) 0 = id := by
  have hfield : field (bytesOf 7 id.toNat ++ ps) 0 7 = id.toNat := by
    have htake : (bytesOf 7 id.toNat ++ ps).take 7 = bytesOf 7 id.toNat := List.take_left' (length_bytesOf 7 _)
    unfold field
    rw [List.drop_zero, htake]
    exact numberOf_bytesOf (by have := id.isLt; omega)
  unfold cardIdAt
  rw [hfield]
  simp

theorem cardIdAt_bytesOf_nil (id : CardId) : cardIdAt (bytesOf 7 id.toNat) 0 = id := by
  simpa using cardIdAt_bytesOf id []

theorem byteAt_after_id (n : Nat) {b : Nat} (hb : b < 256) : byteAt (bytesOf 7 n ++ [byteOf b]) 7 = b := by
  have hdrop : (bytesOf 7 n ++ [byteOf b]).drop 7 = [byteOf b] := List.drop_left' (length_bytesOf 7 _)
  unfold byteAt field
  rw [hdrop]
  exact numberOf_byteOf hb

/-! ### Requests on a ready port -/

section
variable {s : State} {p : Port} (hp : Ready s p)
include hp

/-- A request of a kind taken in every mode on both ports reaches its owner. -/
theorem takeRequest_anywhere {kind : Byte} {ps : List Byte} {fits : List Byte → Bool} (hr : requestRule kind = some (anywhere fits))
    (hfits : fits ps = true) (owner : State → State) (hk : kind ≠ 7 := by decide) :
    s.takeRequest p kind (request kind ps) owner = owner (s.taken p) :=
  takeRequest_ready owner hp hr hfits (by cases p <;> rfl) (by cases s.mode <;> rfl) hk

/-- A request of a kind taken in CONFIGURE alone, on both ports, reaches its owner. -/
theorem takeRequest_configureOnly {kind : Byte} {ps : List Byte} {fits : List Byte → Bool} (hmode : s.mode = .configure)
    (hr : requestRule kind = some (configureOnly fits)) (hfits : fits ps = true) (owner : State → State) (hk : kind ≠ 7 := by decide) :
    s.takeRequest p kind (request kind ps) owner = owner (s.taken p) :=
  takeRequest_ready owner hp hr hfits (by cases p <;> rfl) (by rw [hmode]; rfl) hk

/-! ### O29: WATCH_SET and WATCH_CLEAR (R85, R86) -/

theorem exec_watchSet (id : CardId) {code : Nat} (hcode : code < 256) :
    exec (.watchSet p (request 25 (bytesOf 7 id.toNat ++ [byteOf code]))) s = .next ((s.taken p).watchSet p id code) := by
  refine congrArg Host.Outcome.next ((takeRequest_anywhere hp rfl (by simp [exactly, length_bytesOf]) _).trans ?_)
  rw [request_params, cardIdAt_bytesOf, byteAt_after_id _ hcode]

theorem exec_watchClear (id : CardId) :
    exec (.watchClear p (request 26 (bytesOf 7 id.toNat))) s = .next ((s.taken p).watchClear p id) := by
  refine congrArg Host.Outcome.next ((takeRequest_anywhere hp rfl (by simp [exactly, length_bytesOf]) _).trans ?_)
  rw [request_params, cardIdAt_bytesOf_nil]

end

theorem watchActionOfCode_code (a : WatchAction) : watchActionOfCode a.code = some a := by cases a <;> rfl

theorem code_lt_watchAction (a : WatchAction) : a.code < 256 := by cases a <;> decide

theorem watchActionOfCode_eq_none {code : Nat} (h : 2 < code) : watchActionOfCode code = none := by
  unfold watchActionOfCode
  split
  · omega
  · omega
  · omega
  · rfl

/-- The three ways in which the list takes a WATCH_SET (R85). -/
theorem watchSet_listed {id : CardId} {es : List WatchEntry} (h : ∃ e ∈ es, e.id = id) (a : WatchAction) :
    watchSetEntries id a es = (es.map fun (e : WatchEntry) => if e.id = id then { e with action := a } else e) ∧ watchSetResult id es = .ok := by
  have hany : (es.any fun e => e.id == id) = true := by simpa using h
  simp [watchSetEntries, watchSetResult, hany]

theorem watchSet_full {id : CardId} {es : List WatchEntry} (h : ∀ e ∈ es, e.id ≠ id) (hfull : 16 ≤ es.length) (a : WatchAction) :
    watchSetEntries id a es = es ∧ watchSetResult id es = .full := by
  have hany : (es.any fun e => e.id == id) = false := by simpa using h
  simp [watchSetEntries, watchSetResult, hany, Config.maxWatch, hfull]

theorem watchSet_appended {id : CardId} {es : List WatchEntry} (h : ∀ e ∈ es, e.id ≠ id) (hroom : es.length < 16) (a : WatchAction) :
    watchSetEntries id a es = es ++ [{ id := id, action := a }] ∧ watchSetResult id es = .ok := by
  have hany : (es.any fun e => e.id == id) = false := by simpa using h
  simp [watchSetEntries, watchSetResult, hany, Config.maxWatch, Nat.not_le.2 hroom]

/-- Settles O29, from the owner's part of each request and the three ways of WATCH_SET. -/
theorem watchListEdits : Obligations.WatchListEdits := by
  unfold Obligations.WatchListEdits
  intro s p id a hp
  have hset := exec_watchSet hp id (code_lt_watchAction a)
  rw [State.watchSet, watchActionOfCode_code] at hset
  have hclear := exec_watchClear hp id
  rw [State.watchClear] at hclear
  rw [taken_watch] at hset hclear
  refine ⟨fun hin => ?_, fun hout => ?_, fun code hlow hhigh => ?_⟩
  · obtain ⟨hentries, hresult⟩ := watchSet_listed hin a
    have hany : (s.watch.any fun e => e.id == id) = true := by simpa using hin
    rw [hset, hclear, if_pos hany]
    dsimp only
    rw [hentries, hresult]
    exact ⟨rfl, rfl⟩
  · have hany : ¬(s.watch.any fun e => e.id == id) = true := by simpa using hout
    refine ⟨fun hfull => ?_, fun hroom => ?_, ?_⟩
    · obtain ⟨hentries, hresult⟩ := watchSet_full hout hfull a
      rw [hset]
      dsimp only
      rw [hentries, hresult, ← taken_watch s p]
      rfl
    · obtain ⟨hentries, hresult⟩ := watchSet_appended hout hroom a
      rw [hset]
      dsimp only
      rw [hentries, hresult]
    · rw [hclear, if_neg hany]
      rfl
  · rw [exec_watchSet hp id hhigh, State.watchSet, watchActionOfCode_eq_none hlow]
    rfl

/-! ### O26: an edit begins (R75, R77) -/

section
variable {s : State} {p : Port} {n : Nat}

theorem editElsewhere_eq_true {d : Directory} (h : ∃ e, d.edit = some e ∧ e.port ≠ p) : d.editElsewhere p = true := by
  obtain ⟨e, he, hne⟩ := h
  simp [Directory.editElsewhere, he, hne]

theorem editElsewhere_eq_false {d : Directory} (h : ∀ e, d.edit = some e → e.port = p) : d.editElsewhere p = false := by
  unfold Directory.editElsewhere
  split
  · next e he => simp [h e he]
  · rfl

/-- A count of 0 or above 8. -/
theorem beginEdit_range (hn : n = 0 ∨ 8 < n) (kind : Byte) (w : EditWork) : (s.taken p).beginEdit p kind n w = s.answer p kind .range [] := by
  unfold State.beginEdit
  rw [if_pos hn]
  rfl

theorem beginEdit_busy (hn : 1 ≤ n) (hn' : n ≤ 8) (h : ∃ e, s.directory.edit = some e ∧ e.port ≠ p) (kind : Byte) (w : EditWork) :
    (s.taken p).beginEdit p kind n w = s.answer p kind .busy [] := by
  unfold State.beginEdit
  rw [if_neg (by omega), taken_directory, if_pos (editElsewhere_eq_true h)]
  rfl

theorem beginEdit_begun (hn : 1 ≤ n) (hn' : n ≤ 8) (h : ∀ e, s.directory.edit = some e → e.port = p) (kind : Byte) (w : EditWork) :
    (s.taken p).beginEdit p kind n w =
      { s.taken p with directory := { s.directory with edit := some { port := p, work := w, results := [] } } } := by
  unfold State.beginEdit State.updDirectory
  rw [if_neg (by omega), taken_directory, editElsewhere_eq_false h, if_neg (by decide)]

end

/-- Settles O26, from the three ways of `beginEdit`. -/
theorem editBegins : Obligations.EditBegins := by
  unfold Obligations.EditBegins
  intro s p n body hp hn
  have hcount : byteAt (byteOf n :: body) 0 = n := byteAt_byteOf hn body
  refine ⟨fun hlen => ?_, fun hlen => ?_⟩
  · have hput : exec (.cardPut p (request 23 (byteOf n :: body))) s = .next ((s.taken p).beginEdit p 23 n (.put (cardFormsOf (byteOf n :: body)))) := by
      refine congrArg Host.Outcome.next ((takeRequest_anywhere hp rfl ?_ _).trans ?_)
      · rw [hcount]
        simpa using by omega
      · rw [request_params, hcount]
    rw [hput, cardFormsOf, hcount]
    exact ⟨fun h => by rw [beginEdit_range h], fun h h' hbusy => by rw [beginEdit_busy h h' hbusy], fun h h' hfree => by rw [beginEdit_begun h h' hfree]⟩
  · have hdelete : exec (.cardDelete p (request 24 (byteOf n :: body))) s =
        .next ((s.taken p).beginEdit p 24 n (.delete (cardIdsOf (byteOf n :: body)))) := by
      refine congrArg Host.Outcome.next ((takeRequest_anywhere hp rfl ?_ _).trans ?_)
      · rw [hcount]
        simpa using by omega
      · rw [request_params, hcount]
    rw [hdelete, cardIdsOf, hcount]
    exact ⟨fun h => by rw [beginEdit_range h], fun h h' hbusy => by rw [beginEdit_busy h h' hbusy], fun h h' hfree => by rw [beginEdit_begun h h' hfree]⟩

/-! ### O25: CARD_GET and CARD_NEXT (R82, R83) -/

/-- Settles O25, from the owner's part of each request. -/
theorem cardReads : Obligations.CardReads := by
  unfold Obligations.CardReads
  refine ⟨fun _ => rfl, fun a id => ?_, fun d p q cur => ?_, fun s p hp => ⟨fun id => ?_, fun n => ?_⟩⟩
  · exact decide_eq_true_iff.trans BitVec.lt_def
  · cases p <;> cases q <;> exact ⟨rfl, rfl, rfl, rfl⟩
  · have hget : exec (.cardGet p (request 21 (bytesOf 7 id.toNat))) s = .next ((s.taken p).cardGet p id) := by
      refine congrArg Host.Outcome.next ((takeRequest_anywhere hp rfl (by simp [exactly, length_bytesOf]) _).trans ?_)
      rw [request_params, cardIdAt_bytesOf_nil]
    rw [hget, State.cardGet, taken_directory, taken_card?, State.updDirectory, taken_directory]
    refine ⟨fun hbusy => ?_, fun hfree => ?_⟩
    · rw [if_pos (editElsewhere_eq_true hbusy)]
      rfl
    · rw [editElsewhere_eq_false hfree, if_neg (by decide)]
      rcases s.card? id with _ | r <;> rfl
  · have hnext : n < 256 → exec (.cardNext p (request 22 [byteOf n])) s = .next ((s.taken p).cardNext p n) := fun hn => by
      refine congrArg Host.Outcome.next ((takeRequest_anywhere hp rfl rfl _).trans ?_)
      rw [request_params, byteAt_byteOf hn]
    refine ⟨fun hn => ?_, fun hn hn' => ?_⟩
    · rw [hnext (by omega), State.cardNext, if_pos (by omega)]
      rfl
    · rw [hnext (by omega), State.cardNext, if_neg (by omega), taken_directory]
      refine ⟨fun hbusy => ?_, fun hfree found hfound => ?_⟩
      · rw [if_pos (editElsewhere_eq_true hbusy)]
        rfl
      · have hcards : s.directory.nextCards p n = found := hfound.symm
        rw [editElsewhere_eq_false hfree, if_neg (by decide), hcards]
        refine ⟨fun hnone => ?_, fun r hr => ?_⟩
        · rw [hnone]
          rfl
        · dsimp only
          rw [hr]
          dsimp only
          unfold State.updDirectory
          rw [taken_directory]

end Sys2Proof.Machine.CardDirectory
end

section
namespace Sys2Proof.Machine.CardDirectory

open FillEstimation

/-! ### O22: the requests that replace one setting -/

theorem yesNo_eq (b : Bool) : yesNo b = byteOf b.toNat := by cases b <;> rfl

theorem toNat_lt_256 (b : Bool) : b.toNat < 256 := by cases b <;> decide

section
variable {s : State} {p : Port} (hp : Ready s p) (hmode : s.mode = .configure)
include hp hmode

/-! FRACTION_RULES (R67) -/

theorem exec_fractionRules {charged period : Nat} (hc : charged < 256) (hl : period < 256) :
    exec (.fractionRules p (request 13 [byteOf charged, byteOf period])) s = .next ((s.taken p).setFractionRules p charged period) := by
  refine congrArg Host.Outcome.next ((takeRequest_configureOnly hp hmode rfl rfl _).trans ?_)
  rw [request_params, byteAt_cons_succ, byteAt_byteOf hc, byteAt_byteOf hl]

/-! EVENT_BINDING (R166, R173) -/

theorem exec_eventBinding {cls enable priority action : Nat} (hc : cls < 256) (he : enable < 256) (hpr : priority < 256) (ha : action < 256) :
    exec (.eventBinding p (request 14 [byteOf cls, byteOf enable, byteOf priority, byteOf action])) s =
      .next ((s.taken p).bindEvent p cls enable priority action) := by
  refine congrArg Host.Outcome.next ((takeRequest_configureOnly hp hmode rfl rfl _).trans ?_)
  rw [request_params, byteAt_cons_succ, byteAt_cons_succ, byteAt_cons_succ, byteAt_cons_succ, byteAt_cons_succ, byteAt_cons_succ,
    byteAt_byteOf hc, byteAt_byteOf he, byteAt_byteOf hpr, byteAt_byteOf ha]

/-! INPUT_SETUP (R164) -/

theorem exec_inputSetup {ps : List Byte} (hlen : ps.length = 7) :
    exec (.inputSetup p (request 15 ps)) s = .next ((s.taken p).setInputs p ps) :=
  congrArg Host.Outcome.next (takeRequest_configureOnly hp hmode rfl (by simpa [exactly] using hlen) _)

end

theorem eventClassOfCode_code (cls : EventClass) : eventClassOfCode cls.code = some cls := by cases cls <;> rfl

theorem code_lt_eventClass (cls : EventClass) : cls.code < 256 := by cases cls <;> decide

theorem boundActionOfCode_code (a : BoundAction) : boundActionOfCode a.code = some a := by cases a <;> rfl

theorem code_lt_boundAction (a : BoundAction) : a.code < 256 := by cases a <;> decide

theorem triggerOfCode_code (m : Trigger) : triggerOfCode m.code = some m := by cases m <;> rfl

theorem code_lt_trigger (m : Trigger) : m.code < 256 := by cases m <;> decide

theorem eventClassOfCode_eq_none {n : Nat} (h : n = 0 ∨ 18 < n) : eventClassOfCode n = none := by
  rcases h with rfl | h
  · rfl
  · obtain ⟨m, rfl⟩ := Nat.exists_eq_add_of_le' h
    rfl

theorem boundActionOfCode_eq_none {n : Nat} (h : 3 < n) : boundActionOfCode n = none := by
  obtain ⟨m, rfl⟩ := Nat.exists_eq_add_of_le' h
  rfl

theorem triggerOfCode_eq_none {n : Nat} (h : 1 < n) : triggerOfCode n = none := by
  obtain ⟨m, rfl⟩ := Nat.exists_eq_add_of_le' h
  rfl

/-- The classes to which an action may be bound (R166). -/
theorem bindable_iff (cls : EventClass) : cls.bindable = true ↔
    cls ∈ [EventClass.integrity, .actuatorFault, .doorInput, .floodInput, .auxInput, .overfill, .sensorFault, .hatchHeldOpen] := by
  cases cls <;> decide

section
variable {s : State} {p : Port}

theorem bindEvent_range {cls enable priority action : Nat}
    (h : cls = 0 ∨ 18 < cls ∨ 3 < action ∨ ∀ cl a, eventClassOfCode cls = some cl → boundActionOfCode action = some a →
      1 < enable ∨ 7 < priority ∨ (enable = 0 ∧ cl = .restarted) ∨ (a ≠ .none ∧ cl.bindable = false)) :
    (s.taken p).bindEvent p cls enable priority action = s.answer p 14 .range [] := by
  unfold State.bindEvent
  split
  · next cl a hcl ha =>
    refine (if_pos ?_).trans rfl
    rcases h with h | h | h | h
    · rw [eventClassOfCode_eq_none (.inl h)] at hcl
      cases hcl
    · rw [eventClassOfCode_eq_none (.inr h)] at hcl
      cases hcl
    · rw [boundActionOfCode_eq_none h] at ha
      cases ha
    · exact h cl a hcl ha
  · rfl

/-- A binding that names a class, an action and values that it may have is stored (R173). -/
theorem bindEvent_bound {cls : EventClass} {enable : Bool} {priority : Nat} {action : BoundAction} (hpriority : priority ≤ 7)
    (henable : cls = .restarted → enable = true) (haction : action = .none ∨ cls.bindable = true) :
    (s.taken p).bindEvent p cls.code enable.toNat priority action.code =
      ({ s.taken p with
        bindings := s.bindings.set (cls.code - 1) { enabled := enable, priority := priority, action := action } }).reply p 14 .ok
          [yesNo enable, byteOf priority, byteOf action.code] := by
  have hgood : ¬(1 < enable.toNat ∨ 7 < priority ∨ (enable.toNat = 0 ∧ cls = .restarted) ∨ (action ≠ .none ∧ cls.bindable = false)) := by
    rintro (h | h | ⟨h, hcls⟩ | ⟨h, hcls⟩)
    · exact absurd (Bool.toNat_le enable) (Nat.not_le.2 h)
    · omega
    · simp [henable hcls] at h
    · rcases haction with ha | ha
      · exact h ha
      · simp [hcls] at ha
  have hbit : (enable.toNat == 1) = enable := by cases enable <;> rfl
  unfold State.bindEvent
  rw [eventClassOfCode_code, boundActionOfCode_code]
  dsimp only
  rw [if_neg hgood, hbit, taken_bindings, yesNo_eq]

theorem inputSettingAt_eq_some {ps : List Byte} {i : Nat} {x : InputSetup} (htrigger : byteAt ps i = x.trigger.code)
    (hactive : byteAt ps (i + 1) = x.active.toNat) : inputSettingAt ps i = some x := by
  have hbit : (x.active.toNat == 1) = x.active := by cases x.active <;> rfl
  unfold inputSettingAt
  rw [htrigger, hactive, triggerOfCode_code]
  dsimp only
  rw [if_pos (Bool.toNat_le x.active), hbit]

theorem inputSettingAt_eq_none {ps : List Byte} {i : Nat} (h : 1 < byteAt ps i ∨ 1 < byteAt ps (i + 1)) : inputSettingAt ps i = none := by
  unfold inputSettingAt
  rcases h with h | h
  · rw [triggerOfCode_eq_none h]
  · split
    · exact if_neg (Nat.not_le.2 h)
    · rfl

theorem checkStation_eq_none {t : Nat} (ht : t ≤ 15) (hst : (s.station? t).isSome = true) : s.checkStation t = none := by
  unfold State.checkStation
  rw [if_neg (Nat.not_lt.2 ht), if_neg (by simpa [Option.isSome_iff_ne_none] using hst)]

theorem setInputs_stored {ps : List Byte} {x : PerInput InputSetup} (ht : byteAt ps 0 ≤ 15) (hst : (s.station? (byteAt ps 0)).isSome = true)
    (hx : inputSettingsOf ps = some x) :
    (s.taken p).setInputs p ps = ((s.taken p).updStation (byteAt ps 0) fun st => { st with inputSetup := x }).reply p 15 .ok [] := by
  unfold State.setInputs
  rw [taken_checkStation, checkStation_eq_none ht hst, hx]

theorem setInputs_refused {ps : List Byte} {code : ResultCode} (h : s.checkStation (byteAt ps 0) = some code) :
    (s.taken p).setInputs p ps = s.answer p 15 code [] := by
  unfold State.setInputs
  rw [taken_checkStation, h]
  rfl

theorem setInputs_range {ps : List Byte} (ht : byteAt ps 0 ≤ 15) (hst : (s.station? (byteAt ps 0)).isSome = true)
    (hx : inputSettingsOf ps = none) : (s.taken p).setInputs p ps = s.answer p 15 .range [] := by
  unfold State.setInputs
  rw [taken_checkStation, checkStation_eq_none ht hst, hx]
  rfl

/-- Three settings that spell what they are. -/
theorem inputSettingsOf_eq_some {ps : List Byte} {x : PerInput InputSetup} (hd : inputSettingAt ps 1 = some x.door)
    (hf : inputSettingAt ps 3 = some x.flood) (ha : inputSettingAt ps 5 = some x.aux) : inputSettingsOf ps = some x := by
  unfold inputSettingsOf
  rw [hd, hf, ha]

theorem inputSettingsOf_eq_none {ps : List Byte} (h : inputSettingAt ps 1 = none ∨ inputSettingAt ps 3 = none ∨ inputSettingAt ps 5 = none) :
    inputSettingsOf ps = none := by
  unfold inputSettingsOf
  split
  · next hd hf ha =>
    rw [hd, hf, ha] at h
    simp at h
  · rfl

/-! SERVICE_CODE and SERVICE_CLEAR (R195) -/

theorem codeOf_eq {bs : List Byte} (h : bs.length = 8) : codeOf bs = BitVec.ofNat 64 (numberOf bs) := by
  unfold codeOf field
  rw [List.drop_zero, List.take_of_length_le h.le]

theorem exec_serviceCode (hp : Ready s .gateway) (hmode : s.mode = .configure) {bs : List Byte} (h : bs.length = 0 ∨ bs.length = 8) :
    exec (.serviceCode .gateway (request 17 bs)) s = .next ((s.taken .gateway).serviceCode .gateway bs) :=
  congrArg Host.Outcome.next (takeRequest_ready _ hp rfl (by simpa using h) rfl (by rw [hmode]; rfl) (by decide))

end

/-- Settles O22, from the owner's part of each request. -/
theorem settingsReplaced : Obligations.SettingsReplaced := by
  unfold Obligations.SettingsReplaced
  refine ⟨fun s p charged period hp hmode => ⟨fun hc hlow hhigh => ?_, fun hc hl hbad => ?_⟩,
    fun s p cls enable priority action hp hmode => ⟨fun hpriority henable haction => ?_, fun hpriority hbad => ?_⟩,
    fun s p t x hp hmode ht hst => ?_, fun s p cls enable priority action hp hmode hc he hpr ha hbad => ?_,
    fun s p t d1 d2 f1 f2 a1 a2 hp hmode ht hd1 hd2 hf1 hf2 ha1 ha2 => ?_, fun s bs hp hmode => ⟨fun hlen => ?_, ?_⟩, fun s hp => ?_⟩
  · rw [exec_fractionRules hp hmode (by omega) (by omega), State.setFractionRules, if_neg (by omega), State.updDirectory, taken_directory]
  · rw [exec_fractionRules hp hmode hc hl, State.setFractionRules, if_pos hbad]
    rfl
  · rw [yesNo_eq, exec_eventBinding hp hmode (code_lt_eventClass cls) (toNat_lt_256 enable) (by omega) (code_lt_boundAction action),
      bindEvent_bound hpriority henable (haction.imp_right (bindable_iff cls).2), yesNo_eq]
  · rw [yesNo_eq, exec_eventBinding hp hmode (code_lt_eventClass cls) (toNat_lt_256 enable) hpriority (code_lt_boundAction action)]
    refine congrArg Host.Outcome.next (bindEvent_range (.inr (.inr (.inr fun cl a hcl ha => .inr ?_))))
    obtain rfl := Option.some.inj ((eventClassOfCode_code cls).symm.trans hcl)
    obtain rfl := Option.some.inj ((boundActionOfCode_code action).symm.trans ha)
    refine hbad.imp_right (Or.imp (fun h => ⟨by simp [h.2], h.1⟩) fun h => ⟨h.1, ?_⟩)
    exact Bool.eq_false_iff.2 fun hb => h.2 ((bindable_iff cls).1 hb)
  · rw [exec_inputSetup hp hmode rfl]
    have hstation : byteAt [byteOf t, byteOf x.door.trigger.code, yesNo x.door.active, byteOf x.flood.trigger.code, yesNo x.flood.active,
        byteOf x.aux.trigger.code, yesNo x.aux.active] 0 = t := byteAt_byteOf (by omega) _
    rw [setInputs_stored (by rwa [hstation]) (by rwa [hstation]) (inputSettingsOf_eq_some ?_ ?_ ?_), hstation]
    all_goals
      refine inputSettingAt_eq_some (byteAt_byteOf (code_lt_trigger _) _) ?_
      rw [yesNo_eq, yesNo_eq, yesNo_eq]
      exact byteAt_byteOf (toNat_lt_256 _) _
  · rw [exec_eventBinding hp hmode hc he hpr ha]
    refine congrArg Host.Outcome.next (bindEvent_range ?_)
    rcases hbad with h | h | h | h | h
    · exact .inl h
    · exact .inr (.inl h)
    · exact .inr (.inr (.inr fun _ _ _ _ => .inl h))
    · exact .inr (.inr (.inr fun _ _ _ _ => .inr (.inl h)))
    · exact .inr (.inr (.inl h))
  · have hstation : byteAt ([t, d1, d2, f1, f2, a1, a2].map byteOf) 0 = t := byteAt_byteOf ht _
    have hserved := exec_inputSetup hp hmode (ps := [t, d1, d2, f1, f2, a1, a2].map byteOf) rfl
    refine ⟨fun hhigh => ?_, fun hlow hnone => ?_, fun hlow hst hbad => ?_⟩
    · exact hserved.trans (congrArg Host.Outcome.next (setInputs_refused (by rw [hstation]; exact if_pos hhigh)))
    · refine hserved.trans (congrArg Host.Outcome.next (setInputs_refused ?_))
      rw [hstation, State.checkStation, if_neg (by omega), hnone]
      rfl
    · refine hserved.trans (congrArg Host.Outcome.next (setInputs_range (by rwa [hstation]) (by rwa [hstation]) (inputSettingsOf_eq_none ?_)))
      have hd : byteAt ([t, d1, d2, f1, f2, a1, a2].map byteOf) 1 = d1 ∧ byteAt ([t, d1, d2, f1, f2, a1, a2].map byteOf) 2 = d2 :=
        ⟨byteAt_byteOf hd1 _, byteAt_byteOf hd2 _⟩
      have hf : byteAt ([t, d1, d2, f1, f2, a1, a2].map byteOf) 3 = f1 ∧ byteAt ([t, d1, d2, f1, f2, a1, a2].map byteOf) 4 = f2 :=
        ⟨byteAt_byteOf hf1 _, byteAt_byteOf hf2 _⟩
      have ha : byteAt ([t, d1, d2, f1, f2, a1, a2].map byteOf) 5 = a1 ∧ byteAt ([t, d1, d2, f1, f2, a1, a2].map byteOf) 6 = a2 :=
        ⟨byteAt_byteOf ha1 _, byteAt_byteOf ha2 _⟩
      rcases hbad with h | h | h | h | h | h
      · exact .inl (inputSettingAt_eq_none (.inl (hd.1.symm ▸ h)))
      · exact .inl (inputSettingAt_eq_none (.inr (hd.2.symm ▸ h)))
      · exact .inr (.inl (inputSettingAt_eq_none (.inl (hf.1.symm ▸ h))))
      · exact .inr (.inl (inputSettingAt_eq_none (.inr (hf.2.symm ▸ h))))
      · exact .inr (.inr (inputSettingAt_eq_none (.inl (ha.1.symm ▸ h))))
      · exact .inr (.inr (inputSettingAt_eq_none (.inr (ha.2.symm ▸ h))))
  · rw [exec_serviceCode hp hmode (.inr hlen), State.serviceCode, codeOf_eq hlen, if_neg (by simp [← List.length_eq_zero_iff, hlen])]
    rfl
  · exact (exec_serviceCode hp hmode (.inl rfl)).trans rfl
  · exact (congrArg Host.Outcome.next (takeRequest_ready _ hp rfl rfl rfl (by cases s.mode <;> rfl) (by decide))).trans rfl

end Sys2Proof.Machine.CardDirectory
end

section
namespace Sys2Proof.Machine.CardDirectory

/-! ### O28: record steps (R76 to R78) -/

section
variable {x : CardForm} {cards : List Card} {now : Nat}

/-- A record step for a card with no record, room being left (R76). -/
theorem putResult_new (hbad : x.fieldsBad = false) (hnone : (cards.find? fun r => r.id == x.id) = none) (hroom : cards.length < 8192) :
    putResult x cards = if x.allowance < 255 ∧ x.allowance < (if x.setUsage then x.used else 0) then .range else .ok := by
  rw [putResult_eq, hbad, if_neg (by decide), if_neg fun h => absurd h.2 (Nat.not_le.2 hroom)]
  simp [usedAfterPut, reservedAt, hnone]

/-- A record step for a card with a record (R76). -/
theorem putResult_stored {r : Card} (hbad : x.fieldsBad = false) (hr : (cards.find? fun r => r.id == x.id) = some r) :
    putResult x cards = if x.allowance < 255 ∧ x.allowance < (if x.setUsage then x.used else r.used) + r.reserved then .range else .ok := by
  rw [putResult_eq, hbad, if_neg (by decide), if_neg (by simp [hr])]
  simp [usedAfterPut, reservedAt, hr]

/-- On OK the record of the form is found under its id. -/
theorem find?_putCards (hok : putResult x cards = .ok) : (putCards now x cards).find? (fun r => r.id == x.id) =
    some (x.record (usedAfterPut x cards) (reservedAt x.id cards) (periodAfterPut now x cards)) := by
  rw [putCards_eq, if_pos hok, find?_insertCard]
  exact if_pos rfl

theorem find?_putCards_of_ne {id : CardId} (hid : id ≠ x.id) :
    (putCards now x cards).find? (fun r => r.id == id) = cards.find? fun r => r.id == id := by
  rw [putCards_eq]
  split
  · rw [find?_insertCard]
    exact if_neg hid
  · rfl

theorem putCards_of_refused (h : putResult x cards ≠ .ok) : putCards now x cards = cards := by rw [putCards_eq, if_neg h]

end

section
variable {s : State} {p : Port} {rs : List ResultCode}

theorem afterStep_goesOn {e : Edit} (kind : Byte) (h : e.work.finished = false) :
    s.afterStep kind e = { s with directory := { s.directory with edit := some e } } := by
  unfold State.afterStep
  rw [h]
  rfl

theorem afterStep_ends {e : Edit} (kind : Byte) (h : e.work.finished = true) :
    s.afterStep kind e = (({ s with directory := { s.directory with edit := none } }).reply e.port kind .ok
      (e.results.map ResultCode.value)).serveWaiting := by
  unfold State.afterStep
  rw [if_pos h]
  rfl

theorem putStep_eq {x : CardForm} {rest : List CardForm}
    (h : s.directory.edit = some { port := p, work := .put (x :: rest), results := rs }) :
    s.putStep = ({ s with directory := { s.directory with cards := putCards s.currentPeriod x s.directory.cards } }).afterStep 23
      { port := p, work := .put rest, results := rs ++ [putResult x s.directory.cards] } := by
  unfold State.putStep
  rw [h]
  rfl

theorem deleteStep_eq {id : CardId} {rest : List CardId}
    (h : s.directory.edit = some { port := p, work := .delete (id :: rest), results := rs }) :
    s.deleteStep = ({ s with directory := { s.directory with cards := deleteCards id s.directory.cards } }).afterStep 24
      { port := p, work := .delete rest, results := rs ++ [deleteResult id s.directory.cards] } := by
  unfold State.deleteStep
  rw [h]
  rfl

end

/-- The class of a form by its code (section 4.1). -/
theorem cls_of_classCode {x : CardForm} {cls : CardClass}
    (h : (x.classCode, cls) ∈ [(0, CardClass.resident), (1, .business), (2, .crew)]) : x.cls = cls := by
  simp only [List.mem_cons, Prod.mk.injEq, List.not_mem_nil, or_false] at h
  unfold CardForm.cls
  rcases h with ⟨hcode, rfl⟩ | ⟨hcode, rfl⟩ | ⟨hcode, rfl⟩ <;> rw [hcode] <;> rfl

/-- Settles O28, from the equations of a record step and of the directory after it. -/
theorem recordStepsTaken : Obligations.RecordStepsTaken := by
  unfold Obligations.RecordStepsTaken
  refine ⟨fun s p x rest rs hedit => ?_, fun s p id rest rs hedit => ?_, fieldsBad_iff, fun x cls used reserved period hcls => ?_⟩
  · have hstep : exec .cardPutRecordStep s = .next _ := congrArg Host.Outcome.next (putStep_eq hedit)
    refine ⟨putResult x s.directory.cards, putCards s.currentPeriod x s.directory.cards, fun hrest => ?_, fun hrest => ?_, fun hbad => ?_,
      fun hbad hnone hfull => ?_, fun hbad hnone hroom => ⟨fun hover => ?_, fun hfits => ?_⟩, fun r hbad hr => ⟨fun hover => ?_, fun hfits => ?_⟩,
      fun id hid => find?_putCards_of_ne hid, putCards_of_refused⟩
    · rw [hstep, afterStep_goesOn 23 (by simpa [EditWork.finished] using hrest)]
    · rw [hstep, afterStep_ends 23 (by simpa [EditWork.finished] using hrest)]
    · rw [putResult_eq, if_pos hbad]
    · rw [putResult_eq, hbad, if_neg (by decide), if_pos ⟨hnone, hfull⟩]
    · rw [putResult_new hbad hnone hroom, if_pos hover]
    · have hok := (putResult_new hbad hnone hroom).trans (if_neg hfits)
      have hnone' : (s.directory.cards.find? fun r => r.id == x.id) = none := hnone
      refine ⟨hok, (find?_putCards hok).trans ?_⟩
      simp [usedAfterPut, reservedAt, periodAfterPut, hnone', State.currentPeriod]
    · rw [putResult_stored hbad hr, if_pos hover]
    · have hok := (putResult_stored hbad hr).trans (if_neg hfits)
      have hr' : (s.directory.cards.find? fun r => r.id == x.id) = some r := hr
      refine ⟨hok, (find?_putCards hok).trans ?_⟩
      simp [usedAfterPut, reservedAt, periodAfterPut, hr', State.currentPeriod]
  · have hstep : exec .cardDeleteRecordStep s = .next _ := congrArg Host.Outcome.next (deleteStep_eq hedit)
    refine ⟨deleteResult id s.directory.cards, deleteCards id s.directory.cards, fun hrest => ?_, fun hrest => ?_, fun hnone => ?_,
      fun r hr => ⟨fun hheld => ?_, fun hfree => ?_⟩⟩
    · rw [hstep, afterStep_goesOn 24 (by simpa [EditWork.finished] using hrest)]
    · rw [hstep, afterStep_ends 24 (by simpa [EditWork.finished] using hrest)]
    · have hresult : deleteResult id s.directory.cards = .notFound := by
        unfold deleteResult
        rw [show (s.directory.cards.find? fun r => r.id == id) = none from hnone]
      exact ⟨hresult, if_neg (by simp [hresult])⟩
    · have hresult : deleteResult id s.directory.cards = .held := by
        unfold deleteResult
        rw [show (s.directory.cards.find? fun r => r.id == id) = some r from hr]
        exact if_pos hheld
      exact ⟨hresult, if_neg (by simp [hresult])⟩
    · have hresult : deleteResult id s.directory.cards = .ok := by
        unfold deleteResult
        rw [show (s.directory.cards.find? fun r => r.id == id) = some r from hr]
        exact if_neg (by omega)
      exact ⟨hresult, if_pos hresult⟩
  · unfold CardForm.record
    rw [cls_of_classCode hcls]

end Sys2Proof.Machine.CardDirectory
end

section
namespace Sys2Proof.Machine.CardDirectory

/-! ### Answers at the column (R98, R99) -/

section
variable (s : State) (c : Nat)

theorem onlyContainer_showLamp (l : Lamp) : OnlyContainer c s (s.showLamp c l) :=
  (onlyContainer_changeImage s c _).trans (onlyContainer_updContainer _ c _)

variable {s c} in
theorem container?_showLamp {k : Container} (hk : s.container? c = some k) (l : Lamp) :
    (s.showLamp c l).container? c = some { k with outputs := { k.outputs with lamp := l }, lampHold := some 3 } := by
  unfold State.showLamp
  rw [State.container?_updContainer, if_pos rfl, State.container?_changeImage, if_pos rfl, hk]
  rfl

variable {s c} in
/-- A refusal shows its digit and posts ADMISSION_DENIED, and does nothing else. -/
theorem deny_spec {k : Container} (hk : s.container? c = some k) (id : CardId) (code : RefusalCode) :
    (s.deny c id code).container? c = some (match code.digit with
      | none => k
      | some n => { k with outputs := { k.outputs with lamp := .red n }, lampHold := some 3 }) ∧
    OnlyContainer c s (s.deny c id code) ∧
    (s.deny c id code).report = s.report.post s.tuning.attention
      (s.event .admissionDenied (some (c / 4)) (some c) (.admissionDenied id code)) .none 0 ∧
    { s.deny c id code with stations := s.stations, report := s.report } = s := by
  unfold State.deny State.showRefusal
  rcases code.digit with _ | d
  · exact ⟨hk, (OnlyContainer.refl c s).congr rfl, rfl, rfl⟩
  · exact ⟨container?_showLamp hk _, (onlyContainer_showLamp s c _).congr rfl, rfl, rfl⟩

end

/-! ### The watch list's answer (R87, R93) -/

theorem watchStep_eq_watched (s : State) (c : Nat) (id : CardId) : s.watchStep c id = s.watched c id := by
  unfold State.watchStep State.watched State.watchAction
  rcases hfind : s.watch.find? fun e => e.id == id with _ | e
  · simp only [hfind, Option.map_none]
  · rcases haction : e.action with _ | _ | _
    · simp [hfind, haction, State.postAt, State.post, State.postResult]
    · simp [hfind, haction, State.postAt, State.post, State.postResult]
    · simp [hfind, haction, State.postAt, State.post, State.postResult, State.suspendCard, State.updCard, State.updDirectory]

/-- A card with no entry, or a REPORT entry, is passed on, and at most a report posted. -/
theorem watched_of_report {s : State} {c : Nat} {id : CardId} (h : ∀ e, s.watch.find? (fun e => e.id == id) = some e → e.action = .report) :
    refusedByWatch (s.watchAction id) = false ∧ ∃ q, s.watched c id = { s with report := q } := by
  unfold State.watchAction State.watched
  rcases hfind : s.watch.find? fun e => e.id == id with _ | e
  · simp only [hfind]
    exact ⟨rfl, s.report, rfl⟩
  · have haction := h e hfind
    simp [hfind, haction, refusedByWatch]

/-- A DENY or HOLD entry turns the card away. -/
theorem refusedByWatch_of_entry {s : State} {id : CardId} {e : WatchEntry} (he : s.watch.find? (fun e => e.id == id) = some e)
    (haction : e.action = .deny ∨ e.action = .hold) : refusedByWatch (s.watchAction id) = true := by
  unfold State.watchAction
  rw [he]
  rcases haction with h | h <;> simp [h, refusedByWatch]

/-! ### The check order (R92 to R96, R130) -/

theorem firstFailing_cons (b : Bool) (x : RefusalCode) (ts : List (Bool × RefusalCode)) :
    firstFailing ((b, x) :: ts) = if b = true then some x else firstFailing ts := by
  unfold firstFailing
  rw [List.find?_cons]
  cases b <;> rfl

theorem firstFailing_nil : firstFailing [] = none := rfl

theorem firstFailing_append (ts us : List (Bool × RefusalCode)) : firstFailing (ts ++ us) = (firstFailing ts).or (firstFailing us) := by
  unfold firstFailing
  rw [List.find?_append]
  cases ts.find? fun x => x.1 <;> rfl

section
variable (s : State) (c : Nat) {k : Container}

/-- Steps 7 to 10 of R92 as a table. -/
theorem containerRefusal_eq (k : Container) (r : Card) : s.containerRefusal c k r = firstFailing
    [(!r.home.getLsbD (c / 4), .notHere), (!r.fractions.getLsbD k.fraction.code, .fraction), (k.blocked.isSome, .blocked),
      (k.hatch.force != .none, .forced), (k.est.band == some .lockout, .lockedOut), ((s.opOf c).isSome, .emptying),
      (k.hatch.state != .locked, .busy)] := by
  unfold State.containerRefusal Fraction.isIn
  simp only [firstFailing_cons, firstFailing_nil, Bool.not_eq_true', bne_iff_ne, beq_iff_eq]

/-- Step 11 of R92, the reservation's tests, as a table. -/
theorem reserveRefusal_eq (r : Card) (now w : Nat) : (r.rollover now).reserveRefusal w = firstFailing
    [(decide (4 < r.reserved + w), .multiple), (decide (r.allowance < 255 ∧ r.allowance < usedNow r now + r.reserved + w), .quota)] := by
  rw [reserveRefusal_rollover]
  simp only [firstFailing_cons, firstFailing_nil, decide_eq_true_eq]

variable {s c} in
/-- The tests of a start request from a CREW card as a table (R130). -/
theorem crewRefusal_eq (hk : s.container? c = some k) : s.crewRefusal c = firstFailing
    [(s.round.isNone, .noRound), (!((s.entry? c).map Entry.claimed).getD false, .notListed),
      (k.hatch.force == .release, .forced), ((s.opOf c).isSome, .busy),
      (s.operations.any fun op => op.container != c && op.container / 4 == c / 4 && op.phase != .pending, .busy),
      (s.ops.all Option.isSome, .noSlot)] := by
  have hclaimed : s.entryClaimed c = ((s.entry? c).map Entry.claimed).getD false := by
    unfold State.entryClaimed
    cases s.entry? c <;> rfl
  have hforced : s.forceReleased c = (k.hatch.force == .release) := by
    unfold State.forceReleased
    rw [hk]
  have hcrane : s.craneTaken c = s.operations.any fun op => op.container != c && op.container / 4 == c / 4 && op.phase != .pending := by
    have hphase : ∀ ph : Phase, ph.holdsCrane = (ph != .pending) := fun ph => by cases ph <;> rfl
    unfold State.craneTaken State.operations
    simp only [hphase]
  have hslots : s.freeSlot.isNone = s.ops.all Option.isSome := by
    unfold State.freeSlot
    rw [Bool.eq_iff_iff]
    simp [Option.isSome_iff_ne_none]
  unfold State.crewRefusal
  rw [hclaimed, hforced, hcrane, hslots]
  simp only [firstFailing_cons, firstFailing_nil]

end

section
variable {s : State} {c : Nat} {id : CardId} {k : Container} (hk : s.container? c = some k)
include hk

theorem serve_offline (h : s.onlineAt c = false) : s.serve c id = s.deny c id .offline := by
  unfold State.serve
  rw [hk]
  exact if_pos h

theorem serve_configure (honline : s.onlineAt c = true) (h : s.mode = .configure) : s.serve c id = s.deny c id .mode := by
  unfold State.serve
  rw [hk]
  simp [honline, h]

/-- At an ONLINE station outside CONFIGURE a presentation comes to the watch list, and past it to the directory. -/
theorem serve_checked (honline : s.onlineAt c = true) (hmode : s.mode ≠ .configure) :
    s.serve c id = if refusedByWatch (s.watchAction id) = true then (s.watched c id).deny c id .watched
      else (s.watched c id).directorySteps c k id := by
  unfold State.serve
  rw [hk]
  simp [honline, hmode, watchStep_eq_watched]

end

/-! What the directory makes of a card (steps 3 to 6 of R92). -/

section
variable {s : State} {c : Nat} {id : CardId} {k : Container} {r : Card}

theorem directorySteps_unknown (h : s.card? id = none) : s.directorySteps c k id = s.deny c id .unknown := by
  unfold State.directorySteps
  rw [h]

theorem directorySteps_suspended (hr : s.card? id = some r) (h : r.suspended = true) : s.directorySteps c k id = s.deny c id .suspended := by
  unfold State.directorySteps
  rw [hr]
  exact if_pos h

theorem directorySteps_expired (hr : s.card? id = some r) (h : r.suspended = false) {d : Nat} (hd : r.expiry = some d) (hlt : d < s.clock.day) :
    s.directorySteps c k id = s.deny c id .expired := by
  unfold State.directorySteps
  rw [hr]
  simp [h, hd, hlt]

section
variable (hr : s.card? id = some r) (h : r.suspended = false) (hd : ∀ d, r.expiry = some d → s.clock.day ≤ d)
include hr h hd

/-- A CREW card that is neither SUSPENDED nor expired is a start request. -/
theorem directorySteps_crew (hcrew : r.cls = .crew) : s.directorySteps c k id = s.crewStart c id := by
  unfold State.directorySteps
  rcases hexpiry : r.expiry with _ | d
  · simp [hr, h, hexpiry, hcrew]
  · simp [hr, h, hexpiry, hcrew, hd d hexpiry]

theorem directorySteps_refused (hclass : r.cls ≠ .crew) {code : RefusalCode} (hrefused : s.containerRefusal c k r = some code) :
    s.directorySteps c k id = s.deny c id code := by
  unfold State.directorySteps
  rcases hexpiry : r.expiry with _ | d
  · simp [hr, h, hexpiry, hclass, hrefused]
  · simp [hr, h, hexpiry, hclass, hrefused, hd d hexpiry]

theorem directorySteps_reserving (hclass : r.cls ≠ .crew) (hpassed : s.containerRefusal c k r = none) :
    s.directorySteps c k id = s.reserveAndAdmit c k r := by
  unfold State.directorySteps
  rcases hexpiry : r.expiry with _ | d
  · simp [hr, h, hexpiry, hclass, hpassed]
  · simp [hr, h, hexpiry, hclass, hpassed, hd d hexpiry]

end

theorem reserveAndAdmit_refused {code : RefusalCode} (h : (r.rollover s.currentPeriod).reserveRefusal r.weightOf = some code) :
    s.reserveAndAdmit c k r = (s.updCard r.id (Card.reserve s.currentPeriod r.weightOf)).deny c r.id code := by
  unfold State.reserveAndAdmit
  dsimp only
  rw [h]

theorem reserveAndAdmit_granted (h : (r.rollover s.currentPeriod).reserveRefusal r.weightOf = none) :
    s.reserveAndAdmit c k r = (s.updCard r.id (Card.reserve s.currentPeriod r.weightOf)).admitCard c
      { card := r.id, weight := r.weightOf, charged := s.chargedAt k } := by
  unfold State.reserveAndAdmit
  dsimp only
  rw [h]
  rfl

end

end Sys2Proof.Machine.CardDirectory
end

section
namespace Sys2Proof.Machine.CardDirectory

open FillEstimation

/-! ### A pattern change, container by container (R153, R159) -/

section
variable {s : State} {c : Nat} {k : Container}

theorem suspendedAt_congr {t : State} (h : (t.station? (c / 4)).map Station.status = (s.station? (c / 4)).map Station.status) :
    t.suspendedAt c = s.suspendedAt c := by
  have hread : ∀ u : State, u.suspendedAt c = (((u.station? (c / 4)).map Station.status).map (· == .suspended)).getD true := fun u => by
    unfold State.suspendedAt
    cases u.station? (c / 4) <;> rfl
  rw [hread, hread, h]

theorem suspendedAt_updContainer (s : State) (c : Nat) (f : Container → Container) : (s.updContainer c f).suspendedAt c = s.suspendedAt c := by
  refine suspendedAt_congr ?_
  unfold State.updContainer
  rw [State.station?_updStation, if_pos rfl, Option.map_map]
  rfl

theorem suspendedAt_changeImage (s : State) (c : Nat) (f : Outputs → Outputs) : (s.changeImage c f).suspendedAt c = s.suspendedAt c := by
  have hstatus : ∀ st : Station, (Station.changeImage (c % 4) f st).status = st.status := fun st => by
    unfold Station.changeImage
    split
    · rfl
    · split <;> rfl
  refine suspendedAt_congr ?_
  unfold State.changeImage
  rw [State.station?_updStation, if_pos rfl, Option.map_map]
  exact Option.map_congr fun st _ => hstatus st

theorem patternChange_report (s : State) (c : Nat) (old : PerContact (Option Bool)) : (s.patternChange c old).report = s.report := by
  have hframe := congrArg State.report (patternChange_only s c old).2
  exact hframe

theorem patternChange_actions (s : State) (c : Nat) (old : PerContact (Option Bool)) : (s.patternChange c old).actions = s.actions := by
  have hframe := congrArg State.actions (patternChange_only s c old).2
  exact hframe

/-- The settle states of a container at a pattern change from `old`. -/
theorem container?_patternChange (hk : s.container? c = some k) (old : PerContact (Option Bool)) :
    (s.patternChange c old).container? c = some (if s.suspendedAt c = true then k else
      { k with
        settleHL := k.settleHL.onExpected s.tuning.settleTime k.mask.hl k.contacts.hl.accepted old.hl (s.pattern c).hl
        settleLL := k.settleLL.onExpected s.tuning.settleTime k.mask.ll k.contacts.ll.accepted old.ll (s.pattern c).ll }) := by
  unfold State.patternChange
  split
  · exact hk
  · dsimp only
    rw [container?_evaluate, State.container?_updContainer, if_pos rfl, hk]
    rfl

theorem pattern_of_noOperation (hk : s.container? c = some k) (hop : s.opOf c = none) : s.pattern c = expectedPattern none k.hatch := by
  unfold State.pattern State.phaseOf
  rw [hk, hop]
  rfl

theorem expectedPattern_locked {h : HatchRecord} (hforce : h.force = .none) (hstate : h.state = .locked) :
    expectedPattern none h = .all (some true) := by
  simp [expectedPattern, hforce, hstate]

theorem expectedPattern_released {h : HatchRecord} (hforce : h.force = .none) (hstate : h.state = .released) :
    expectedPattern none h = { hc := some true, hl := some false, ll := some true, se := some true, pd := some true } := by
  simp [expectedPattern, hforce, hstate]

theorem exitTest_of_noOperation (hop : s.opOf c = none) : s.exitTest c = s := by
  unfold State.exitTest State.mayUnlatch
  rw [hop]
  rfl

/-- With no action in flight there is no confirmation part to follow. -/
theorem followParts_of_noAction (h : s.actions = []) : s.followParts c = s := by
  have hsame : { s with actions := [] } = s := by rw [← h]
  have hparts : ∀ f, s.updParts c f = s := fun f => by
    unfold State.updParts State.completeActions
    rw [h]
    exact hsame
  unfold State.followParts
  split
  · split
    · exact hparts _
    · rfl
  · rfl

/-! ### An admission (R96) -/

/-- At a container without an operation a hatch change is followed by no exit test. -/
theorem changeHatch_of_noOperation (hop : s.opOf c = none) (f : HatchRecord → HatchRecord) :
    s.changeHatch c f =
      ((s.updContainer c fun k => { k with hatch := f k.hatch }).patternChange c (s.pattern c)).followParts c := by
  have hmoved : (((s.updContainer c fun k => { k with hatch := f k.hatch }).patternChange c (s.pattern c)).followParts c).opOf c = none := by
    rw [State.followParts_opOf, State.opOf_congr (patternChange_ops _ _ _)]
    exact hop
  unfold State.changeHatch State.withPattern
  dsimp only
  rw [exitTest_of_noOperation hmoved]
  exact ite_self _

/-- The container of an admission: RELEASED under its record, lock RELEASE, GREEN for 3 s, and a settle window for HL unless it agrees, is masked or
its station is SUSPENDED. -/
def admittedContainer (s : State) (c : Nat) (a : Admission) (k : Container) : Container :=
  { k with
    hatch := admitted a s.tuning.releaseWindow k.hatch
    outputs := { lock := .release, latch := k.outputs.latch, lamp := .green }
    lampHold := some 3
    settleHL := if s.suspendedAt c = true ∨ k.mask.hl = true then k.settleHL
      else startSettle s.tuning.settleTime k.contacts.hl.accepted false }

/-- What an admission does at a LOCKED hatch under no force, with no operation. -/
theorem admitCard_spec (hk : s.container? c = some k) (hop : s.opOf c = none) (hlocked : k.hatch.state = .locked) (hforce : k.hatch.force = .none)
    (a : Admission) :
    OnlyHatch c s (s.admitCard c a) ∧ (s.actions = [] → (s.admitCard c a).report = s.report) ∧
      (s.admitCard c a).container? c = some (admittedContainer s c a k) := by
  have hlit : ((s.setLock c .release).showLamp c .green).container? c =
      some { k with outputs := { lock := .release, latch := k.outputs.latch, lamp := .green }, lampHold := some 3 } := by
    refine container?_showLamp (k := { k with outputs := { k.outputs with lock := .release } }) ?_ .green
    rw [State.setLock, State.container?_changeImage, if_pos rfl, hk]
    rfl
  have honly : OnlyContainer c s ((s.setLock c .release).showLamp c .green) := (onlyContainer_changeImage s c _).trans (onlyContainer_showLamp _ c _)
  have hop' : ((s.setLock c .release).showLamp c .green).opOf c = none := hop
  obtain ⟨⟨honly', hframe⟩, _⟩ := changeHatch_spec _ c (admitted a s.tuning.releaseWindow) _ hlit (.inl hlocked)
  have hcontainer : (((s.setLock c .release).showLamp c .green).updContainer c fun k =>
      { k with hatch := admitted a s.tuning.releaseWindow k.hatch }).container? c = some { k with
        hatch := admitted a s.tuning.releaseWindow k.hatch
        outputs := { lock := .release, latch := k.outputs.latch, lamp := .green }
        lampHold := some 3 } := by
    rw [State.container?_updContainer, if_pos rfl, hlit]
    rfl
  have hsuspended : (((s.setLock c .release).showLamp c .green).updContainer c fun k =>
      { k with hatch := admitted a s.tuning.releaseWindow k.hatch }).suspendedAt c = s.suspendedAt c := by
    rw [suspendedAt_updContainer, State.showLamp, suspendedAt_updContainer, suspendedAt_changeImage, State.setLock, suspendedAt_changeImage]
  refine ⟨⟨honly.trans honly', congrArg (fun v : State => { v with stations := s.stations }) hframe⟩, fun hidle => ?_, ?_⟩
  · have hreport : (((s.setLock c .release).showLamp c .green).changeHatch c (admitted a s.tuning.releaseWindow)).report = s.report := by
      rw [changeHatch_of_noOperation hop', followParts_of_noAction]
      · exact patternChange_report _ c _
      · exact (patternChange_actions _ c _).trans hidle
    exact hreport
  · have hchanged : (((s.setLock c .release).showLamp c .green).changeHatch c (admitted a s.tuning.releaseWindow)).container? c =
        some (admittedContainer s c a k) := by
      rw [changeHatch_of_noOperation hop', State.followParts_container?, container?_patternChange hcontainer, hsuspended,
        pattern_of_noOperation hlit hop', pattern_of_noOperation hcontainer hop', expectedPattern_locked hforce hlocked,
        expectedPattern_released (h := admitted a s.tuning.releaseWindow k.hatch) hforce rfl]
      unfold admittedContainer Settle.onExpected
      by_cases hsusp : s.suspendedAt c = true
      · simp [hsusp]
      · by_cases hmask : k.mask.hl = true
        · simp [hsusp, hmask, PerContact.all]
        · simp [hsusp, hmask, PerContact.all]
          rfl
    exact hchanged

end

end Sys2Proof.Machine.CardDirectory
end

section
namespace Sys2Proof.Machine.CardDirectory

/-! ### O32: presentations (R90 to R98) -/

section
variable {s : State} {c : Nat} {k : Container} {r : Card}

/-- A presentation that passes every check comes to a granted reservation. -/
theorem present_admitted (hedit : s.directory.edit = none) (hk : s.container? c = some k) (honline : s.onlineAt c = true) (hmode : s.mode ≠ .configure)
    (hwatch : ∀ e, s.watch.find? (fun e => e.id == r.id) = some e → e.action = .report) (hr : s.card? r.id = some r) (hvalid : r.suspended = false)
    (hexpiry : ∀ d, r.expiry = some d → s.clock.day ≤ d) (hclass : r.cls ≠ .crew) (hpassed : s.containerRefusal c k r = none)
    (hgranted : (r.rollover s.currentPeriod).reserveRefusal r.weightOf = none) :
    ∃ q, s.watched c r.id = { s with report := q } ∧
      s.present c r.id = (({ s with report := q } : State).updCard r.id (Card.reserve s.currentPeriod r.weightOf)).admitCard c
        { card := r.id, weight := r.weightOf, charged := s.chargedAt k } := by
  obtain ⟨hnot, q, hq⟩ := watched_of_report (c := c) hwatch
  refine ⟨q, hq, ?_⟩
  have hserved : s.present c r.id = s.serve c r.id := by
    unfold State.present
    rw [hedit]
    rfl
  rw [hserved, serve_checked hk honline hmode, hnot, if_neg (by decide), hq,
    directorySteps_reserving (s := { s with report := q }) hr hvalid hexpiry hclass hpassed]
  exact reserveAndAdmit_granted (s := { s with report := q }) hgranted

theorem suspendedAt_of_station? {st : Station} (hst : s.station? (c / 4) = some st) : s.suspendedAt c = true ↔ st.status = .suspended := by
  unfold State.suspendedAt
  rw [hst]
  exact beq_iff_eq

theorem map_id_updCard (s : State) (id : CardId) {f : Card → Card} (hf : ∀ r, (f r).id = r.id) :
    (s.updCard id f).directory.cards.map Card.id = s.directory.cards.map Card.id := by
  unfold State.updCard State.updDirectory
  rw [List.map_map]
  refine List.map_congr_left fun r _ => ?_
  dsimp only [Function.comp_apply]
  split
  · exact hf r
  · rfl

/-- What an admission of card `r` leaves, over the state `u` in which the reservation is made. -/
theorem admitted_frame {q : Report} {g : Card → Card} {t : State}
    (ht : OnlyHatch c (({ s with report := q } : State).updCard r.id g) t) :
    t.directory = (s.updCard r.id g).directory ∧ OnlyContainer c s t ∧
      { t with stations := s.stations, directory := s.directory, actions := s.actions, report := s.report } = s := by
  obtain ⟨honly, hframe⟩ := ht
  refine ⟨?_, honly, congrArg (fun v : State => { v with directory := s.directory, report := s.report }) hframe⟩
  have hdirectory := congrArg State.directory hframe
  exact hdirectory

end

theorem mem_of_firstFailing {ts : List (Bool × RefusalCode)} {x : RefusalCode} (h : firstFailing ts = some x) : x ∈ ts.map Prod.snd := by
  obtain ⟨t, ht, rfl⟩ := Option.map_eq_some_iff.1 h
  exact List.mem_map_of_mem (List.mem_of_find?_eq_some ht)

/-- The container's tests name neither MULTIPLE nor QUOTA, and the reservation's nothing else. -/
theorem not_reservation_of_containerRefusal {s : State} {c : Nat} {k : Container} {r : Card} {code : RefusalCode}
    (h : s.containerRefusal c k r = some code) : ¬(code = .multiple ∨ code = .quota) := by
  have hmem := mem_of_firstFailing ((containerRefusal_eq s c k r).symm.trans h)
  rintro (rfl | rfl) <;> simp at hmem

theorem reservation_of_reserveRefusal {r : Card} {now w : Nat} {code : RefusalCode} (h : (r.rollover now).reserveRefusal w = some code) :
    code = .multiple ∨ code = .quota := by
  simpa using mem_of_firstFailing ((reserveRefusal_eq r now w).symm.trans h)

/-- What a change makes of the one record with an id is all it does. -/
theorem updCard_congr {s : State} (htables : TablesOk s) {r : Card} (hr : r ∈ s.directory.cards) {f g : Card → Card} (hfg : f r = g r) :
    s.updCard r.id f = s.updCard r.id g := by
  have hcards : (s.directory.cards.map fun x => if x.id == r.id then f x else x) = s.directory.cards.map fun x => if x.id == r.id then g x else x := by
    refine List.map_congr_left fun x hx => ?_
    by_cases hid : x.id = r.id
    · rw [card_eq_of_id ((tablesOk_iff s).1 htables).1.ascending hx hr hid]
      simp [hfg]
    · simp [hid]
  unfold State.updCard State.updDirectory
  dsimp only
  rw [hcards]

section
variable {s : State} {c : Nat} {id : CardId} {k : Container} {r : Card} (hk : s.container? c = some k) (honline : s.onlineAt c = true)
  (hmode : s.mode ≠ .configure) (hwatch : ∀ e, s.watch.find? (fun e => e.id == id) = some e → e.action = .report)
include hk honline hmode hwatch

/-- Past the watch list the directory decides, over the state in which CARD_WATCH has been posted for a REPORT entry. -/
theorem serve_past_watch : ∃ q, s.watched c id = { s with report := q } ∧ s.serve c id = ({ s with report := q } : State).directorySteps c k id := by
  obtain ⟨hnot, q, hq⟩ := watched_of_report (c := c) hwatch
  refine ⟨q, hq, ?_⟩
  rw [serve_checked hk honline hmode, hnot, if_neg (by decide), hq]

theorem serve_unknown (h : s.card? id = none) : s.serve c id = (s.watched c id).deny c id .unknown := by
  obtain ⟨q, hq, hserve⟩ := serve_past_watch hk honline hmode hwatch
  rw [hserve, hq]
  exact directorySteps_unknown (s := { s with report := q }) h

variable (hr : s.card? id = some r)
include hr

theorem serve_suspended (h : r.suspended = true) : s.serve c id = (s.watched c id).deny c id .suspended := by
  obtain ⟨q, hq, hserve⟩ := serve_past_watch hk honline hmode hwatch
  rw [hserve, hq]
  exact directorySteps_suspended (s := { s with report := q }) hr h

theorem serve_expired (h : r.suspended = false) (hexpired : ∃ d, r.expiry = some d ∧ d < s.clock.day) :
    s.serve c id = (s.watched c id).deny c id .expired := by
  obtain ⟨q, hq, hserve⟩ := serve_past_watch hk honline hmode hwatch
  obtain ⟨d, hd, hlt⟩ := hexpired
  rw [hserve, hq]
  exact directorySteps_expired (s := { s with report := q }) hr h hd hlt

variable (h : r.suspended = false) (hexpiry : ∀ d, r.expiry = some d → s.clock.day ≤ d)
include h hexpiry

/-- A CREW card starts an operation or is refused by the first test of R130 that fails. -/
theorem serve_crew (hcrew : r.cls = .crew) :
    (∀ x, s.crewRefusal c = some x → s.serve c id = (s.watched c id).deny c id x) ∧
    (s.crewRefusal c = none → s.serve c id = ((s.watched c id).start c (.card id)).showLamp c .green) := by
  obtain ⟨q, hq, hserve⟩ := serve_past_watch hk honline hmode hwatch
  rw [hserve, hq, directorySteps_crew (s := { s with report := q }) hr h hexpiry hcrew]
  have hsame : ({ s with report := q } : State).crewRefusal c = s.crewRefusal c := rfl
  unfold State.crewStart
  rw [hsame]
  exact ⟨fun x hx => by rw [hx], fun hnone => by rw [hnone]⟩

/-- Another card is refused by the first of the container's tests that fails. -/
theorem serve_containerRefused (hclass : r.cls ≠ .crew) {code : RefusalCode} (hrefused : s.containerRefusal c k r = some code) :
    s.serve c id = (s.watched c id).deny c id code := by
  obtain ⟨q, hq, hserve⟩ := serve_past_watch hk honline hmode hwatch
  rw [hserve, hq]
  exact directorySteps_refused (s := { s with report := q }) hr h hexpiry hclass hrefused

/-- A refused reservation leaves the rollover (R70). -/
theorem serve_reservationRefused (hclass : r.cls ≠ .crew) (hpassed : s.containerRefusal c k r = none) (htables : TablesOk s) {code : RefusalCode}
    (hrefused : (r.rollover s.currentPeriod).reserveRefusal r.weightOf = some code) :
    s.serve c id = ((s.watched c id).updCard id fun r' => { r' with used := usedNow r s.currentPeriod, period := s.currentPeriod }).deny c id code := by
  obtain ⟨q, hq, hserve⟩ := serve_past_watch hk honline hmode hwatch
  obtain ⟨hmem, rfl⟩ := card?_eq_some hr
  have hrolled : (Card.reserve s.currentPeriod r.weightOf) r = { r with used := usedNow r s.currentPeriod, period := s.currentPeriod } := by
    rw [reserve_of_refused _ _ _ hrefused, rollover_eq]
  have hupdated := updCard_congr (s := { s with report := q }) htables hmem
    (g := fun r' => { r' with used := usedNow r s.currentPeriod, period := s.currentPeriod }) hrolled
  rw [hserve, hq, ← hupdated, directorySteps_reserving (s := { s with report := q }) hr h hexpiry hclass hpassed]
  exact reserveAndAdmit_refused (s := { s with report := q }) hrefused

end

/-- A DENY or HOLD entry refuses the card (R93). -/
theorem serve_watched {s : State} {c : Nat} {id : CardId} {k : Container} (hk : s.container? c = some k) (honline : s.onlineAt c = true)
    (hmode : s.mode ≠ .configure) {e : WatchEntry} (he : s.watch.find? (fun e => e.id == id) = some e) (haction : e.action = .deny ∨ e.action = .hold) :
    s.serve c id = (s.watched c id).deny c id .watched := by
  rw [serve_checked hk honline hmode, refusedByWatch_of_entry he haction, if_pos rfl]

/-- Settles O32, from the ways that `serve` takes and from what an admission does. -/
theorem admissionGranted : Obligations.AdmissionGranted := by
  unfold Obligations.AdmissionGranted
  refine ⟨?_, fun s c id => ⟨fun hedit => ?_, fun hedit => ⟨fun hroom => ?_, fun hfull => ?_⟩, fun hnone => ?_, fun older hold => ?_, fun hgone => ?_⟩,
    fun s c id k hk => ⟨serve_offline hk, serve_configure hk, fun honline hmode => ⟨fun e he haction => serve_watched hk honline hmode he haction,
      fun hwatch => ⟨serve_unknown hk honline hmode hwatch, ?_⟩⟩⟩,
    fun s c id k code hk => ⟨_, rfl, deny_spec hk id code⟩, fun s id f => ?_, fun code => by cases code <;> rfl⟩
  · intro s c w used k r hedit hk honline hmode hwatch hr hvalid hexpiry hclass hhome hfraction hblocked hforce hband hop hlocked hw hused hunits hquota
    have hpassed : s.containerRefusal c k r = none := by
      unfold State.containerRefusal Fraction.isIn
      simp [hhome, hfraction, hblocked, hforce, hband, hop, hlocked]
    obtain rfl : w = r.weightOf := hw
    obtain rfl : used = usedNow r s.currentPeriod := hused
    have hgranted : (r.rollover s.currentPeriod).reserveRefusal r.weightOf = none := by
      rw [reserveRefusal_rollover, if_neg (Nat.not_lt.2 hunits), if_neg fun h => absurd (hquota h.1) (Nat.not_le.2 h.2)]
    obtain ⟨q, hq, hpresent⟩ := present_admitted hedit hk honline hmode hwatch hr hvalid hexpiry hclass hpassed hgranted
    obtain ⟨honlyHatch, hreport, hcontainer⟩ := admitCard_spec
      (s := ({ s with report := q } : State).updCard r.id (Card.reserve s.currentPeriod r.weightOf)) (k := k) hk hop hlocked hforce
      { card := r.id, weight := r.weightOf, charged := s.chargedAt k }
    rw [← hpresent] at honlyHatch hreport hcontainer
    obtain ⟨hdirectory, honly, hframe⟩ := admitted_frame honlyHatch
    have hid : ∀ r', (Card.reserve s.currentPeriod r.weightOf r').id = r'.id := (steady_reserve _ _).id_eq
    have hcard : ∀ id, (s.present c r.id).card? id = (s.updCard r.id (Card.reserve s.currentPeriod r.weightOf)).card? id := fun id =>
      congrArg (fun d : Directory => d.cards.find? fun r : Card => r.id == id) hdirectory
    refine ⟨_, ?_, fun id hne => ?_, hcontainer, rfl, rfl, rfl, rfl, fun st hst => ⟨?_, rfl⟩, ?_, ?_, honly, fun hidle => ?_, hframe⟩
    · rw [hcard, State.card?_updCard _ _ _ _ hid, if_pos rfl, hr, Option.map_some, reserve_of_granted _ _ _ hgranted, rollover_eq]
      rfl
    · rw [hcard, State.card?_updCard _ _ _ _ hid, if_neg hne]
    · have hsuspended : (({ s with report := q } : State).updCard r.id (Card.reserve s.currentPeriod r.weightOf)).suspendedAt c = true ↔
          st.status = .suspended := suspendedAt_of_station? hst
      exact if_congr (or_congr_left hsuspended) rfl rfl
    · rw [hdirectory]
      rfl
    · rw [hdirectory]
      exact map_id_updCard s r.id hid
    · rw [hreport hidle, hq]
      rfl
  · unfold State.present
    rw [hedit]
    rfl
  · unfold State.present
    rw [if_neg (by simpa [Option.isSome_iff_ne_none] using hedit)]
    exact if_pos hroom
  · unfold State.present
    rw [if_neg (by simpa [Option.isSome_iff_ne_none] using hedit)]
    exact if_neg (Nat.not_lt.2 hfull)
  · unfold State.serveWaiting
    rw [hnone]
    exact congrArg (fun ws => ({ s with waiting := ws } : State)) hnone.symm
  · unfold State.serveWaiting
    rw [hold, List.foldl_append]
    rfl
  · unfold State.serve
    rw [hgone]
  · intro r w used hr hw hused
    obtain rfl : w = r.weightOf := hw
    obtain rfl : used = usedNow r s.currentPeriod := hused
    refine ⟨serve_suspended hk honline hmode hwatch hr, serve_expired hk honline hmode hwatch hr, fun hvalid hexpiry => ⟨fun hcrew code hcode => ?_,
      fun hclass htables code hcode => ?_⟩⟩
    · obtain ⟨hrefused, hstarted⟩ := serve_crew hk honline hmode hwatch hr hvalid hexpiry hcrew
      rw [crewRefusal_eq hk, ← hcode] at hrefused hstarted
      exact ⟨hrefused, hstarted⟩
    · have htests : (s.containerRefusal c k r).or ((r.rollover s.currentPeriod).reserveRefusal r.weightOf) = some code := by
        rw [containerRefusal_eq, reserveRefusal_eq, ← firstFailing_append]
        exact hcode
      rcases hpassed : s.containerRefusal c k r with _ | x
      · rw [hpassed, Option.none_or] at htests
        rw [if_pos (reservation_of_reserveRefusal htests)]
        exact serve_reservationRefused hk honline hmode hwatch hr hvalid hexpiry hclass hpassed htables htests
      · rw [hpassed, Option.some_or] at htests
        obtain rfl := Option.some.inj htests
        rw [if_neg (not_reservation_of_containerRefusal hpassed)]
        exact serve_containerRefused hk honline hmode hwatch hr hvalid hexpiry hclass hpassed
  · unfold State.updCard State.updDirectory
    simp only [beq_iff_eq]

end Sys2Proof.Machine.CardDirectory
end

section
namespace Sys2Proof.Machine

theorem SameButSettle.flags {k k' : Container} (h : SameButSettle k' k) : k'.flags = k.flags :=
  have hflags := congrArg Container.flags h
  hflags

end Sys2Proof.Machine

namespace Sys2Proof.Machine.HatchControl

open FillEstimation CardDirectory

/-! ### Records but for the settle states -/

/-- A change of a container that neither reads nor sets its settle states keeps what two records share. -/
def Unsettling (f : Container → Container) : Prop :=
  ∀ (k : Container) (x y : Settle), f { k with settleHL := x, settleLL := y } = { f k with settleHL := x, settleLL := y }

theorem Unsettling.sameButSettle {f : Container → Container} (hf : Unsettling f) {k k' : Container} (h : SameButSettle k' k) :
    SameButSettle (f k') (f k) := by
  have hk' : k' = { k with settleHL := k'.settleHL, settleLL := k'.settleLL } := by
    rw [← show _ = k from h]
  have hself : { f k with settleHL := (f k).settleHL, settleLL := (f k).settleLL } = f k := rfl
  rw [hk', hf]
  exact hself

/-! ### Operations -/

/-- Two states with the same slots have the same phases. -/
theorem phaseOf_congr {s t : State} (h : t.ops = s.ops) (c : Nat) : t.phaseOf c = s.phaseOf c := by
  unfold State.phaseOf
  rw [State.opOf_congr h]

/-- Two states with the same slots have the same crane positions taken. -/
theorem craneTaken_congr {s t : State} (h : t.ops = s.ops) (c : Nat) : t.craneTaken c = s.craneTaken c := by
  unfold State.craneTaken
  rw [h]

/-! ### What moving a hatch brings about (R105, R134, R136) -/

/-- An operation once that of container `c` has left PENDING for UNLATCHED, if it `goes` (R136). -/
def departed (goes : Bool) (c wait : Nat) (op : Operation) : Operation :=
  if goes = true ∧ op.container = c then { op with phase := .unlatched, timer := some wait } else op

theorem departed_false (c wait : Nat) : departed false c wait = id := funext fun op => by simp [departed]

theorem departed_departed (g₁ g₂ : Bool) (c wait : Nat) : departed g₂ c wait ∘ departed g₁ c wait = departed (g₁ || g₂) c wait := by
  funext op
  by_cases hc : op.container = c <;> cases g₁ <;> cases g₂ <;> simp [departed, hc]

theorem ops_updOp_departed (s : State) (c wait : Nat) :
    (s.updOp c fun op => { op with phase := .unlatched, timer := some wait }).ops = s.ops.map (Option.map (departed true c wait)) := by
  have hop : (fun op : Operation => if op.container == c then { op with phase := .unlatched, timer := some wait } else op) = departed true c wait :=
    funext fun op => by simp [departed]
  unfold State.updOp
  rw [hop]

/-- The outputs of a container whose operation leaves PENDING, if it `goes`: the latch at RELEASE (R136). -/
def unlatched (goes : Bool) (o : Outputs) : Outputs := { o with latch := if goes = true then .release else o.latch }

/-- From `s` to `t` container `c` comes to be `k`, but for its settle states, its operation leaves PENDING if it `goes`, and but for its confirmation
parts nothing else changes; with no action in flight there are none. -/
structure HatchMoved (c : Nat) (goes : Bool) (k : Container) (s t : State) : Prop where
  container : ∃ k', t.container? c = some k' ∧ SameButSettle k' k
  ops : t.ops = s.ops.map (Option.map (departed goes c s.tuning.liftWait))
  only : OnlyContainer c s t
  frame : { t with stations := s.stations, ops := s.ops, actions := s.actions, report := s.report } = s
  idle : s.actions = [] → t.actions = [] ∧ t.report = s.report

namespace HatchMoved

variable {c : Nat} {goes g₁ g₂ : Bool} {k k₁ k₂ : Container} {s t u : State}

theorem tuning (h : HatchMoved c goes k s t) : t.tuning = s.tuning :=
  have htuning := congrArg State.tuning h.frame
  htuning

theorem directory (h : HatchMoved c goes k s t) : t.directory = s.directory :=
  have hdirectory := congrArg State.directory h.frame
  hdirectory

theorem collection (h : HatchMoved c goes k s t) : t.collection = s.collection :=
  have hcollection := congrArg State.collection h.frame
  hcollection

theorem ops_of_still (h : HatchMoved c false k s t) : t.ops = s.ops := by
  rw [h.ops, departed_false, Option.map_id, List.map_id]

theorem onlyHatch (h : HatchMoved c false k s t) : OnlyHatch c s t := by
  have hops := congrArg (fun l => { t with stations := s.stations, ops := l, actions := s.actions, report := s.report }) h.ops_of_still
  exact ⟨h.only, hops.trans h.frame⟩

theorem weaken (h : HatchMoved c goes k₁ s t) (hk : SameButSettle k₁ k₂) : HatchMoved c goes k₂ s t where
  container := by
    obtain ⟨k', hk', hsame⟩ := h.container
    exact ⟨k', hk', hk.trans hsame⟩
  ops := h.ops
  only := h.only
  frame := h.frame
  idle := h.idle

/-- A change whose only hold on the state is container `c`. -/
theorem of_stations (hk : t.container? c = some k) (honly : OnlyContainer c s t) (hframe : { t with stations := s.stations } = s) :
    HatchMoved c false k s t where
  container := ⟨k, hk, rfl⟩
  ops := by
    rw [departed_false, Option.map_id, List.map_id]
    have hops := congrArg State.ops hframe
    exact hops
  only := honly
  frame := congrArg (fun v : State => { v with ops := s.ops, actions := s.actions, report := s.report }) hframe
  idle hidle := by
    have hactions := congrArg State.actions hframe
    have hreport := congrArg State.report hframe
    exact ⟨hactions.trans hidle, hreport⟩

/-- One move after another. -/
theorem trans (h₁ : HatchMoved c g₁ k₁ s t) (h₂ : HatchMoved c g₂ k₂ t u) : HatchMoved c (g₁ || g₂) k₂ s u where
  container := h₂.container
  ops := by rw [h₂.ops, h₁.ops, h₁.tuning, List.map_map, Option.map_comp_map, departed_departed]
  only := h₁.only.trans h₂.only
  frame :=
    have hframe := congrArg (fun v : State => { v with stations := s.stations, ops := s.ops, actions := s.actions, report := s.report }) h₂.frame
    hframe.trans h₁.frame
  idle hidle := by
    obtain ⟨hactions, hreport⟩ := h₁.idle hidle
    obtain ⟨hactions', hreport'⟩ := h₂.idle hactions
    exact ⟨hactions', hreport'.trans hreport⟩

/-- A further move, made of the record that the first has left. -/
theorem next {f : Container → Container} (hf : Unsettling f) (h₁ : HatchMoved c g₁ k s t)
    (h₂ : ∀ k', t.container? c = some k' → SameButSettle k' k → HatchMoved c g₂ (f k') t u) : HatchMoved c (g₁ || g₂) (f k) s u := by
  obtain ⟨k', hk', hsame⟩ := h₁.container
  exact h₁.trans ((h₂ k' hk' hsame).weaken (hf.sameButSettle hsame))

/-- A further move that keeps the record as the first has left it. -/
theorem followed (h₁ : HatchMoved c g₁ k s t) (h₂ : ∀ k', t.container? c = some k' → HatchMoved c g₂ k' t u) :
    HatchMoved c (g₁ || g₂) k s u :=
  h₁.next (f := id) (fun _ _ _ => rfl) fun k' hk' _ => h₂ k' hk'

/-- What a move makes of the container's operation. -/
theorem opOf (h : HatchMoved c goes k s t) :
    t.opOf c = (s.opOf c).map fun op => if goes = true then { op with phase := .unlatched, timer := some s.tuning.liftWait } else op := by
  cases goes with
  | false => rw [State.opOf_congr h.ops_of_still]; simp
  | true =>
    have hops : t.ops = (s.updOp c fun op => { op with phase := .unlatched, timer := some s.tuning.liftWait }).ops := by
      rw [h.ops, ops_updOp_departed]
    have hleft := State.opOf_updOp s c c (fun op => { op with phase := .unlatched, timer := some s.tuning.liftWait }) fun _ => rfl
    rw [State.opOf_congr hops, hleft, if_pos rfl]
    simp

end HatchMoved

end Sys2Proof.Machine.HatchControl
end

section
namespace Sys2Proof.Machine.HatchControl

open FillEstimation CardDirectory

/-! ### A hatch change with its exit test (R105, R134) -/

/-- A hatch change at the monitor, before any exit test (R105). -/
def hatchMoved (c : Nat) (f : HatchRecord → HatchRecord) (s : State) : State :=
  (s.withPattern c (State.updContainer c fun k => { k with hatch := f k.hatch })).followParts c

theorem changeHatch_eq (s : State) (c : Nat) (f : HatchRecord → HatchRecord) :
    s.changeHatch c f =
      if (!s.hatchLocked c && (hatchMoved c f s).hatchLocked c && (hatchMoved c f s).mayUnlatch c) = true then
        (hatchMoved c f s).enterUnlatched c
      else hatchMoved c f s := by
  simp only [State.changeHatch, State.exitTest, hatchMoved, Bool.and_eq_true, ite_and]

section
variable {s : State} {c : Nat} {k : Container} (hk : s.container? c = some k)
include hk

theorem moved_updContainer (f : Container → Container) : HatchMoved c false (f k) s (s.updContainer c f) :=
  .of_stations (container?_updContainer_self hk f) (onlyContainer_updContainer s c f) rfl

theorem moved_changeImage (f : Outputs → Outputs) : HatchMoved c false { k with outputs := f k.outputs } s (s.changeImage c f) :=
  .of_stations (by rw [State.container?_changeImage, if_pos rfl, hk]; rfl) (onlyContainer_changeImage s c f) rfl

theorem moved_patternChange (old : PerContact (Option Bool)) : HatchMoved c false k s (s.patternChange c old) := by
  obtain ⟨k', hk', hsame⟩ := patternChange_container? s c old k hk
  obtain ⟨honly, hframe⟩ := patternChange_only s c old
  exact (HatchMoved.of_stations hk' honly hframe).weaken hsame

theorem moved_followParts : HatchMoved c false k s (s.followParts c) where
  container := ⟨k, by rw [State.followParts_container?, hk], rfl⟩
  ops := by rw [State.followParts_ops, departed_false, Option.map_id, List.map_id]
  only := (OnlyContainer.refl c s).congr (State.followParts_stations s c)
  frame := congrArg (fun v : State => { v with stations := s.stations, ops := s.ops }) (onlyActions_followParts s c)
  idle hidle := by rw [followParts_of_noAction hidle]; exact ⟨hidle, rfl⟩

theorem moved_updOp : HatchMoved c true k s
    (s.updOp c fun op => { op with phase := .unlatched, timer := some s.tuning.liftWait }) where
  container := ⟨k, hk, rfl⟩
  ops := ops_updOp_departed s c s.tuning.liftWait
  only := (OnlyContainer.refl c s).congr rfl
  frame := rfl
  idle hidle := ⟨hidle, rfl⟩

/-- Leaving PENDING: the latch at RELEASE, the phase and the lift wait (R136). -/
theorem moved_enterUnlatched : HatchMoved c true { k with outputs := unlatched true k.outputs } s (s.enterUnlatched c) := by
  have hlatch : HatchMoved c false { k with outputs := unlatched true k.outputs } s (s.setLatch c .release) := moved_changeImage hk (unlatched true)
  have hphase := hlatch.followed fun k₁ hk₁ => moved_updOp hk₁
  exact hphase.followed fun k₂ hk₂ => moved_patternChange hk₂ ((s.setLatch c .release).pattern c)

/-- The exit test of PENDING (R134). -/
theorem mayUnlatch_eq : s.mayUnlatch c =
    decide (k.hatch.state = .locked ∧ s.phaseOf c = some .pending ∧ k.contacts.hl.accepted = some true ∧ s.craneTaken c = false) := by
  unfold State.mayUnlatch State.phaseOf
  rw [hk]
  rcases s.opOf c with _ | op
  · simp
  · rw [Bool.eq_iff_iff]
    simp only [Bool.and_eq_true, beq_iff_eq, Bool.not_eq_true', decide_eq_true_eq, Option.map_some, Option.some.injEq]
    tauto

theorem moved_hatchMoved (f : HatchRecord → HatchRecord) : HatchMoved c false { k with hatch := f k.hatch } s (hatchMoved c f s) :=
  ((moved_updContainer hk fun k => { k with hatch := f k.hatch }).followed fun _ h => moved_patternChange h (s.pattern c)).followed
    fun _ h => moved_followParts h

/-- A hatch change with its exit test: what becomes of the container whose hatch is not LOCKED and then is (R105, R134). -/
theorem moved_changeHatch (f : HatchRecord → HatchRecord) {goes : Bool}
    (hgoes : goes = decide (k.hatch.state ≠ .locked ∧ (f k.hatch).state = .locked ∧ s.phaseOf c = some .pending ∧
      k.contacts.hl.accepted = some true ∧ s.craneTaken c = false)) :
    HatchMoved c goes { k with hatch := f k.hatch, outputs := unlatched goes k.outputs } s (s.changeHatch c f) := by
  have hmoved := moved_hatchMoved hk f
  have htest : goes = (!s.hatchLocked c && (hatchMoved c f s).hatchLocked c && (hatchMoved c f s).mayUnlatch c) := by
    obtain ⟨k', hk', hsame⟩ := hmoved.container
    have hphase := phaseOf_congr hmoved.ops_of_still c
    have hcrane := craneTaken_congr hmoved.ops_of_still c
    rw [hgoes, mayUnlatch_eq hk', Bool.eq_iff_iff]
    simp only [State.hatchLocked, hk, hk', hsame.hatch, hsame.contacts, hphase, hcrane, Bool.and_eq_true, Bool.not_eq_true', beq_iff_eq,
      beq_eq_false_iff_ne, decide_eq_true_eq]
    tauto
  rw [changeHatch_eq, ← htest]
  cases goes with
  | false => exact hmoved
  | true =>
    exact hmoved.next (f := fun k => { k with outputs := unlatched true k.outputs }) (fun _ _ _ => rfl) fun _ h _ => moved_enterUnlatched h

/-- A hatch change that brings about no exit test. -/
theorem moved_changeHatch_still (f : HatchRecord → HatchRecord)
    (h : k.hatch.state = .locked ∨ (f k.hatch).state ≠ .locked ∨ s.phaseOf c ≠ some .pending) :
    HatchMoved c false { k with hatch := f k.hatch } s (s.changeHatch c f) :=
  moved_changeHatch hk f (Eq.symm (decide_eq_false fun ⟨hfrom, hto, hphase, _⟩ => by
    rcases h with h | h | h
    · exact hfrom h
    · exact h hto
    · exact h hphase))

end

end Sys2Proof.Machine.HatchControl
end

section
namespace Sys2Proof.Machine.HatchControl

open FillEstimation CardDirectory

/-! ### Locking and withdrawing a hatch (R102, R106) -/

theorem returnAdmission_eq (s : State) (a : Option Admission) :
    s.returnAdmission a = { s with directory := (s.returnAdmission a).directory } := by cases a <;> rfl

section
variable {s : State} {c : Nat} {k : Container} (hk : s.container? c = some k) {goes : Bool}
include hk

/-- A hatch LOCKED without a deposit: once the reservation is returned, the lock at ENGAGE and the hatch LOCKED (R102). -/
theorem moved_lockHatch (hstate : k.hatch.state ≠ .locked)
    (hgoes : goes = decide (s.phaseOf c = some .pending ∧ k.contacts.hl.accepted = some true ∧ s.craneTaken c = false)) :
    HatchMoved c goes { k with hatch := k.hatch.lockedNow, outputs := unlatched goes { k.outputs with lock := .engage } }
      (s.returnAdmission k.hatch.admission) (s.lockHatch c k.hatch) := by
  unfold State.lockHatch
  rw [returnAdmission_eq]
  generalize (s.returnAdmission k.hatch.admission).directory = d
  have hlock := moved_changeImage (s := { s with directory := d }) hk fun o => { o with lock := .engage }
  have hlocked : State.container? (State.setLock c .engage { s with directory := d }) c =
      some { k with outputs := { k.outputs with lock := .engage } } := by
    rw [State.setLock, State.container?_changeImage, if_pos rfl]
    exact congrArg (Option.map _) hk
  have hchanged := moved_changeHatch hlocked HatchRecord.lockedNow (goes := goes) (by
    rw [hgoes]
    exact decide_eq_decide.2 ⟨fun h => ⟨hstate, rfl, h⟩, fun h => h.2.2⟩)
  exact hlock.trans hchanged

end

/-- The hatch record that a withdrawal leaves (R106). -/
def withdrawn (h : HatchRecord) : HatchRecord :=
  match h.state with
  | .locked => h
  | .released => h.lockedNow
  | .opened => if h.force = .release then { h with force := .none, closeAction := .lock } else h

/-- The outputs that a withdrawal leaves: those of a RELEASED hatch are the ones of a hatch being LOCKED. -/
def withdrawnOutputs (goes : Bool) (h : HatchRecord) (o : Outputs) : Outputs :=
  if h.state = .released then unlatched goes { o with lock := .engage } else o

/-- The admission that a withdrawal returns. -/
def withdrawnAdmission (h : HatchRecord) : Option Admission := if h.state = .released then h.admission else none

/-- A withdrawal, by the state of the hatch: a LOCKED one stays, a RELEASED one is LOCKED, an OPEN one is left to close (R106). -/
theorem moved_withdraw {s : State} {c : Nat} {k : Container} (hk : s.container? c = some k) {goes : Bool}
    (hgoes : goes = decide (k.hatch.state = .released ∧ s.phaseOf c = some .pending ∧ k.contacts.hl.accepted = some true ∧
      s.craneTaken c = false)) :
    HatchMoved c goes { k with hatch := withdrawn k.hatch, outputs := withdrawnOutputs goes k.hatch k.outputs }
      (s.returnAdmission (withdrawnAdmission k.hatch)) (s.withdraw c) := by
  have hstays : HatchMoved c false k s s := .of_stations hk (.refl c s) rfl
  unfold State.withdraw withdrawn withdrawnOutputs withdrawnAdmission
  rw [hk]
  dsimp only
  cases hstate : k.hatch.state with
  | locked =>
    obtain rfl : goes = false := hgoes.trans (decide_eq_false (by simp [hstate]))
    exact hstays
  | released => exact moved_lockHatch hk (by simp [hstate]) (hgoes.trans (by simp [hstate]))
  | opened =>
    obtain rfl : goes = false := hgoes.trans (decide_eq_false (by simp [hstate]))
    cases hforce : k.hatch.force with
    | none => exact hstays
    | lock => exact hstays
    | release =>
      have hclosing := moved_changeHatch_still hk (fun h => { h with force := .none, closeAction := .lock }) (.inr (.inl (by simp [hstate])))
      rw [hstate] at hclosing
      exact hclosing

/-- A force LOCK begins: the withdrawal, then the force state (R108). -/
theorem moved_beginForceLock {s : State} {c : Nat} {k : Container} (hk : s.container? c = some k) {goes : Bool}
    (hgoes : goes = decide (k.hatch.state = .released ∧ s.phaseOf c = some .pending ∧ k.contacts.hl.accepted = some true ∧
      s.craneTaken c = false)) :
    HatchMoved c goes
      { k with hatch := { withdrawn k.hatch with force := .lock }, outputs := withdrawnOutputs goes k.hatch k.outputs }
      (s.returnAdmission (withdrawnAdmission k.hatch)) (s.beginForceLock c) := by
  have hforced := (moved_withdraw hk hgoes).next (f := fun k => { k with hatch := { k.hatch with force := .lock } }) (fun _ _ _ => rfl)
    fun k' hk' _ => moved_changeHatch_still hk' (fun h => { h with force := .lock })
      (if h : k'.hatch.state = .locked then .inl h else .inr (.inl h))
  rwa [Bool.or_false] at hforced

/-- What a move leaves of the state in which the reservation of an admission has been returned. -/
theorem HatchMoved.of_returned {c : Nat} {goes : Bool} {k : Container} {a : Option Admission} {s t : State}
    (h : HatchMoved c goes k (s.returnAdmission a) t) :
    t.ops = s.ops.map (Option.map (departed goes c s.tuning.liftWait)) ∧ t.directory = (s.returnAdmission a).directory ∧ OnlyContainer c s t ∧
      { t with stations := s.stations, directory := s.directory, ops := s.ops, actions := s.actions, report := s.report } = s := by
  rw [returnAdmission_eq] at h ⊢
  exact ⟨h.ops, h.directory, h.only, congrArg (fun v : State => { v with directory := s.directory }) h.frame⟩

end Sys2Proof.Machine.HatchControl
end

section
namespace Sys2Proof.Machine.HatchControl

open FillEstimation CardDirectory

/-! ### Requests that name one container in SUPERVISE -/

section
variable {s : State} {p : Port} {c : Nat} {k : Container} (hp : Ready s p) (hmode : s.mode = .supervise) (hc : c < 64)
  (hk : s.container? c = some k)
include hp hmode hc hk

theorem takeRequest_superviseContainer {kind : Byte} (hr : requestRule kind = some (superviseOnly (exactly 1)))
    (owner : Nat → Container → State → State) (hkind : kind ≠ 7 := by decide) :
    s.takeRequest p kind (request kind [byteOf c]) (fun t => t.onContainer p kind [byteOf c] owner) = owner c k (s.taken p) := by
  have hbyte : byteAt [byteOf c] 0 = c := byteAt_byteOf (by omega) []
  rw [takeRequest_ready _ hp hr rfl (by cases p <;> rfl) (by rw [hmode]; rfl) hkind,
    onContainer_inUse (k := k) _ (by rw [hbyte]; exact hc) (by rw [hbyte, taken_container?]; exact hk), hbyte]

theorem exec_forceLock : exec (.forceLock p (request 36 [byteOf c])) s =
    .next (if k.hatch.force = .lock then s.answer p 36 .ok [] else ((s.taken p).beginForceLock c).reply p 36 .ok []) :=
  congrArg Host.Outcome.next (takeRequest_superviseContainer hp hmode hc hk rfl _)

theorem exec_forceRelease : exec (.forceRelease p (request 37 [byteOf c])) s =
    .next (if (s.opOf c).isSome then s.answer p 37 .busy []
      else if k.hatch.force = .release then s.answer p 37 .ok []
      else if k.hatch.state ≠ .locked then s.answer p 37 .held []
      else if s.onlineAt c = false then s.answer p 37 .offline []
      else ((s.taken p).beginForceRelease c).reply p 37 .ok []) := by
  rw [← taken_opOf s p c, ← taken_onlineAt s p c]
  exact congrArg Host.Outcome.next (takeRequest_superviseContainer hp hmode hc hk rfl _)

theorem exec_forceCancel : exec (.forceCancel p (request 38 [byteOf c])) s = .next (((s.taken p).cancelForce c).reply p 38 .ok []) :=
  congrArg Host.Outcome.next (takeRequest_superviseContainer hp hmode hc hk rfl _)

end

/-! ### O33: FORCE_LOCK (R106, R108) -/

/-- The hatch record of a container under a force LOCK that has just begun. -/
theorem withdrawn_underForceLock (h : HatchRecord) :
    { withdrawn h with force := .lock } =
      match h.state with
      | .locked => { h with force := .lock }
      | .released => { state := .locked, force := .lock, admission := none, window := none, deposit := none, closeAction := .lock }
      | .opened => { h with force := .lock, closeAction := if h.force = .release then .lock else h.closeAction } := by
  obtain ⟨state, force, admission, window, deposit, closeAction⟩ := h
  cases state with
  | locked => rfl
  | released => rfl
  | opened => cases force <;> rfl

/-- Settles O33, from what the withdrawal and the force state make of the hatch. -/
theorem forceLocked : Obligations.ForceLocked := by
  unfold Obligations.ForceLocked
  intro s p c k hp hmode hc hk
  rw [exec_forceLock hp hmode hc hk]
  refine ⟨fun hforce => by rw [if_pos hforce], fun hforce goes hgoes => ?_⟩
  have hphase : (s.taken p).phaseOf c = s.phaseOf c := taken_phaseOf s p c
  have hcrane : (s.taken p).craneTaken c = s.craneTaken c := craneTaken_congr (taken_ops s p) c
  have hmoved := moved_beginForceLock (s := s.taken p) (k := k) (goes := goes) (by rw [taken_container?]; exact hk)
    (by rw [hphase, hcrane]; exact hgoes)
  obtain ⟨k', hk', hsame⟩ := hmoved.container
  obtain ⟨hops, hdirectory, honly, hframe⟩ := hmoved.of_returned
  refine ⟨_, k', congrArg Host.Outcome.next (if_neg hforce), ?_, hk', ?_, ?_, ?_, hdirectory, ?_, ?_⟩
  · rwa [taken_ops, taken_tuning] at hops
  · exact hsame.hatch.trans (withdrawn_underForceLock k.hatch)
  · exact hsame.outputs
  · have hrest := Unsettling.sameButSettle (f := fun x => { x with hatch := k.hatch, outputs := k.outputs }) (fun _ _ _ => rfl) hsame
    exact hrest
  · exact ((OnlyContainer.refl c s).congr (taken_stations s p)).trans honly
  · rwa [taken_stations, taken_directory, taken_ops, taken_actions, taken_report] at hframe

end Sys2Proof.Machine.HatchControl
end

section
namespace Sys2Proof.Machine.HatchControl

open FillEstimation CardDirectory

/-! ### O34: FORCE_RELEASE and FORCE_CANCEL (R109, R111) -/

section
variable {s : State} {c : Nat} {k : Container} (hk : s.container? c = some k)
include hk

/-- A force release begins at a LOCKED hatch (R109). -/
theorem moved_beginForceRelease (hlocked : k.hatch.state = .locked) :
    HatchMoved c false { k with hatch := k.hatch.forceReleased, outputs := { k.outputs with lock := .release } } s (s.beginForceRelease c) :=
  (moved_changeImage hk fun o => { o with lock := .release }).next
    (f := fun k => { k with hatch := k.hatch.forceReleased }) (fun _ _ _ => rfl)
    fun _ hk' hsame => moved_changeHatch_still hk' _ (.inl (hsame.hatch.symm ▸ hlocked))

theorem cancelForce_none (hforce : k.hatch.force = .none) : s.cancelForce c = s := by
  unfold State.cancelForce
  rw [hk]
  dsimp only
  rw [hforce]

/-- Ending a force LOCK leaves the hatch as it is (R111). -/
theorem moved_cancelForce_lock (hforce : k.hatch.force = .lock) :
    HatchMoved c false { k with hatch := { k.hatch with force := .none } } s (s.cancelForce c) := by
  unfold State.cancelForce
  rw [hk]
  dsimp only
  rw [hforce]
  exact moved_changeHatch_still hk (fun h => { h with force := .none }) (or_iff_not_imp_left.2 .inl)

/-- Ending a force release LOCKS a RELEASED hatch (R111). -/
theorem moved_cancelForce_released (hforce : k.hatch.force = .release) (hstate : k.hatch.state = .released) (hnone : k.hatch.admission = none)
    (hphase : s.phaseOf c ≠ some .pending) :
    HatchMoved c false { k with hatch := k.hatch.lockedNow, outputs := { k.outputs with lock := .engage } } s (s.cancelForce c) := by
  have hlocked := moved_lockHatch (goes := false) hk (by simp [hstate]) (by simp [hphase])
  rw [hnone] at hlocked
  unfold State.cancelForce
  rw [hk]
  dsimp only
  rw [hforce, hstate]
  exact hlocked

/-- Ending a force release leaves an OPEN hatch to lock at its close (R111). -/
theorem moved_cancelForce_opened (hforce : k.hatch.force = .release) (hstate : k.hatch.state = .opened) :
    HatchMoved c false { k with hatch := { k.hatch with force := .none, closeAction := .lock } } s (s.cancelForce c) := by
  have hclosing := moved_changeHatch_still hk (fun h => { h with force := .none, closeAction := .lock }) (.inr (.inl (by simp [hstate])))
  unfold State.cancelForce
  rw [hk]
  dsimp only
  rw [hstate] at hclosing
  rw [hforce, hstate]
  exact hclosing

end

/-- Settles O34, in the order of the tables of R109 and R111. -/
theorem forceReleasedCancelled : Obligations.ForceReleasedCancelled := by
  unfold Obligations.ForceReleasedCancelled
  refine ⟨fun s p c k hp hmode hc hk => ?_, fun s p c k hp hmode hc hk => ?_⟩
  · have hk' : (s.taken p).container? c = some k := (taken_container? s p c).trans hk
    rw [exec_forceRelease hp hmode hc hk]
    refine ⟨fun hop => by rw [if_pos hop], fun hop hforce => ?_, fun hop hforce hstate => ?_, fun hop hforce hstate honline => ?_,
      fun hop hforce hstate honline => ?_⟩
    · simp [hop, hforce]
    · simp [hop, hforce, hstate]
    · simp [hop, hforce, hstate, honline]
    · have hmoved := moved_beginForceRelease hk' hstate
      obtain ⟨k', hcontainer, hsame⟩ := hmoved.container
      have hrest := Unsettling.sameButSettle (f := fun x => { x with hatch := k.hatch, outputs := k.outputs }) (fun _ _ _ => rfl) hsame
      exact ⟨_, k', by simp [hop, hforce, hstate, honline], hcontainer, hsame.hatch, hsame.outputs, hrest, hmoved.onlyHatch⟩
  · have hk' : (s.taken p).container? c = some k := (taken_container? s p c).trans hk
    rw [exec_forceCancel hp hmode hc hk]
    refine ⟨fun hforce => ?_, fun hforce => ?_, fun hforce hstate hnone hphase => ?_, fun hforce hstate => ?_⟩
    · rw [cancelForce_none hk' hforce]
      rfl
    · have hmoved := moved_cancelForce_lock hk' hforce
      obtain ⟨k', hcontainer, hsame⟩ := hmoved.container
      exact ⟨_, k', rfl, hcontainer, hsame, hmoved.onlyHatch⟩
    · have hmoved := moved_cancelForce_released hk' hforce hstate hnone (by rwa [taken_phaseOf])
      obtain ⟨k', hcontainer, hsame⟩ := hmoved.container
      unfold HatchRecord.lockedNow at hsame
      rw [if_pos hforce] at hsame
      exact ⟨_, k', rfl, hcontainer, hsame, hmoved.onlyHatch⟩
    · have hmoved := moved_cancelForce_opened hk' hforce hstate
      obtain ⟨k', hcontainer, hsame⟩ := hmoved.container
      exact ⟨_, k', rfl, hcontainer, hsame, hmoved.onlyHatch⟩

/-! ### O35: the timers of a hatch (R102, R104) -/

section
variable {s : State} {c : Nat} {k : Container} (hk : s.container? c = some k)
include hk

theorem exec_releaseWindowExpiry : exec (.releaseWindowExpiry c) s =
    .next (if k.hatch.state = .released ∧ k.hatch.window.isSome then s.lockHatch c k.hatch else s) := by
  refine congrArg Host.Outcome.next ?_
  unfold State.releaseWindowExpiry
  rw [hk]

theorem exec_depositTimerExpiry : exec (.depositTimerExpiry c) s =
    .next (if k.hatch.state = .opened ∧ k.hatch.deposit.isSome then
      (s.updContainer c fun k =>
        { k with hatch := { k.hatch with deposit := none }, flags := { k.flags with hatchHeldOpen := true } }).raiseAt .hatchHeldOpen c
        (.hatchHeldOpen (k.hatch.admission.map Admission.card))
    else s) := by
  refine congrArg Host.Outcome.next ?_
  unfold State.depositTimerExpiry
  rw [hk]

end

/-- Settles O35: a release window LOCKS the hatch as any withdrawal does, a deposit timer raises its event. -/
theorem hatchTimersExpired : Obligations.HatchTimersExpired := by
  unfold Obligations.HatchTimersExpired
  intro s c k hk
  rw [exec_releaseWindowExpiry hk, exec_depositTimerExpiry hk]
  refine ⟨fun hstate hwindow goes hgoes => ?_, fun hstopped => by rw [if_neg hstopped], fun hstate hdeposit => ?_,
    fun hstate hdeposit haction => ?_, fun hstopped => by rw [if_neg hstopped]⟩
  · have hmoved := moved_lockHatch hk (by simp [hstate]) hgoes
    obtain ⟨k', hcontainer, hsame⟩ := hmoved.container
    obtain ⟨hops, hdirectory, honly, hframe⟩ := hmoved.of_returned
    exact ⟨_, k', by rw [if_pos ⟨hstate, hwindow⟩], hops, hcontainer, hsame, hdirectory, honly, hframe⟩
  · rw [if_pos ⟨hstate, hdeposit⟩]
    rfl
  · rw [if_pos ⟨hstate, hdeposit⟩, raiseAt_noAction (s := s.updContainer c _) haction]
    rfl

end Sys2Proof.Machine.HatchControl
end

section
namespace Sys2Proof.Machine.HatchControl

open FillEstimation CardDirectory

/-! ### The band after a deposit (R55) -/

/-- A deposit credit raises the band of a container with this record (R55). -/
def raises (x : Setup) (e : Estimator) : Bool := e.band.any fun b => decide (b.number < (x.candidate b e.level).number)

/-- The record after the credit-driven evaluation: a higher candidate is entered as a seed's is (R54, R55). -/
def raised (x : Setup) (e : Estimator) : Estimator := if raises x e = true then evaluated x true e else e

/-- The flags after the credit-driven evaluation. -/
def raisedFlags (x : Setup) (e : Estimator) (f : ContainerFlags) : ContainerFlags :=
  if raises x e = true then evaluatedFlags x true e f else f

theorem evaluateCredit_eq (s : State) (c : Nat) (x : Setup) (e : Estimator) :
    s.evaluateCredit c x e = if raises x e = true then evaluateBand c x true e s else s := by
  unfold State.evaluateCredit raises
  rcases hband : e.band with _ | b
  · rfl
  · by_cases hup : b.number < (x.candidate b e.level).number
    · have hne : b ≠ x.candidate b e.level := fun heq => absurd hup (by rw [← heq]; exact lt_irrefl _)
      simp [hup, evaluateBand, State.evaluateSeed, hband, hne]
    · simp [hup]

/-- From `s` to `t` container `c`, whose record was `k`, comes by the estimator record `e` and the flags `fl`: its entry and the postings are those of
the change to the band of `e`, and with the band as it was there are none. -/
structure Rebanded (s : State) (c : Nat) (x : Setup) (k : Container) (e : Estimator) (fl : ContainerFlags) (t : State) : Prop where
  container : t.container? c = some { k with est := e, flags := fl }
  only : OnlyContainer c s t
  frame : { t with stations := s.stations, collection := s.collection, report := s.report } = s
  flags : ∀ new, e.band = some new → fl = k.flags.passed (x.reported k.est.band new)
  entry : ∀ new, e.band = some new → t.entry? c = (bandListing k.est.band new (s.freshEntry c e.forecast) (s.entry? c)).1
  others : ∀ d, d ≠ c → t.entry? d = s.entry? d
  report : ∀ new, e.band = some new → t.report = s.reportBand c x k.est.band new k.est.level e.forecast s.report
  unchanged : e.band = k.est.band → fl = k.flags ∧ t.collection = s.collection ∧ t.report = s.report

/-- No evaluation is a change to the band as it was. -/
theorem Rebanded.refl {s : State} {c : Nat} {k : Container} (hk : s.container? c = some k) (x : Setup) : Rebanded s c x k k.est k.flags s where
  container := hk
  only := .refl c s
  frame := rfl
  flags new hnew := by rw [hnew, reported_self, passed_nil]
  entry new hnew := by rw [hnew, bandListing_self]
  others _ _ := rfl
  report new hnew := by rw [hnew, State.reportBand, bandListing_self, reported_self]; rfl
  unchanged _ := ⟨rfl, rfl, rfl⟩

/-- The evaluation of a seed in these terms (R54). -/
theorem Rebanded.of_evaluated {s : State} {c : Nat} {k : Container} (hk : s.container? c = some k) {x : Setup} {t : State}
    (h : Evaluated s c x true k t) : Rebanded s c x k (evaluated x true k.est) (evaluatedFlags x true k.est k.flags) t where
  container := by
    rw [State.container?_congr h.stations, container?_updContainer_self hk]
    rfl
  only := (onlyContainer_updContainer s c _).congr h.stations
  frame := h.frame
  flags new hnew := by unfold evaluatedFlags; rw [hnew]
  entry := h.entry
  others := h.others
  report := h.report
  unchanged hband := by
    refine ⟨?_, h.unchanged hband⟩
    unfold evaluatedFlags
    rw [← hband, evaluated_seed]
    exact (congrArg (ContainerFlags.passed · k.flags) (reported_self x (seedBand x k.est))).trans (passed_nil k.flags)

/-- The credit-driven evaluation raises the band or leaves the record as it is (R55). -/
theorem rebanded_evaluateCredit {s : State} {c : Nat} {k : Container} (hk : s.container? c = some k) (x : Setup) :
    Rebanded s c x k (raised x k.est) (raisedFlags x k.est k.flags) (s.evaluateCredit c x k.est) := by
  rw [evaluateCredit_eq]
  unfold raised raisedFlags
  split
  · exact .of_evaluated hk (evaluated_evaluateBand hk x true)
  · exact .refl hk x

/-! ### A deposit credit (R42, R43) -/

/-- The record after a deposit credit of weight `w`. -/
def deposited (x : Setup) (w wait : Nat) (e : Estimator) : Estimator := { raised x (e.addDeposit x w) with postDeposit := some wait }

/-- The record after a deposit credit, field by field. -/
theorem deposited_eq {x : Setup} {w wait credit credited level : Nat} {e : Estimator} {band : Option Band}
    (hcredit : credit = min 16000 (e.credit + w * x.perWeight)) (hcredited : credited = min 16000 (e.smoothed.getD 0 + credit))
    (hlevel : level = (credited + 8) / 16)
    (hband : band = e.band.map fun b => if b.number < (x.candidate b level).number then x.candidate b level else b) :
    deposited x w wait e =
      { e with
        credit := credit, credited := credited, level := level, deposits := min 65535 (e.deposits + 1), postDeposit := some wait, band := band
        candidate := if band = e.band then e.candidate else none
        count := if band = e.band then e.count else 0
        forecast := if band = e.band then e.forecast else hoursToFull credited e.rate x.tFull } := by
  subst hcredit hcredited hlevel hband
  have hadded : e.addDeposit x w =
      { e with
        credit := min 16000 (e.credit + w * x.perWeight)
        credited := min 16000 (e.smoothed.getD 0 + min 16000 (e.credit + w * x.perWeight))
        level := (min 16000 (e.smoothed.getD 0 + min 16000 (e.credit + w * x.perWeight)) + 8) / 16
        deposits := min 65535 (e.deposits + 1) } := rfl
  unfold deposited raised raises
  rw [hadded]
  dsimp only
  rcases hband : e.band with _ | b
  · simp
  · generalize (min 16000 (e.smoothed.getD 0 + min 16000 (e.credit + w * x.perWeight)) + 8) / 16 = level
    by_cases hup : b.number < (x.candidate b level).number
    · have hne : x.candidate b level ≠ b := fun heq => absurd hup (by rw [heq]; exact lt_irrefl _)
      simp [hup, hne, evaluated_seed, seedBand, banded, entered, Estimator.forecastNow]
    · simp [hup]

/-- What a deposit credit of weight `w` under the setup `x` makes of container `c`, with the passages, the list requests and the postings of its band
(R55, R57). -/
structure CreditEffect (s : State) (c w : Nat) (x : Setup) (k k₁ : Container) (t : State) : Prop where
  est : k₁.est = deposited x w s.tuning.postDeposit k.est
  flags : ∀ new, k₁.est.band = some new → k₁.flags = k.flags.passed (x.reported k.est.band new)
  entry : ∀ new, k₁.est.band = some new → t.entry? c = (bandListing k.est.band new (s.freshEntry c k₁.est.forecast) (s.entry? c)).1
  report : ∀ new, k₁.est.band = some new →
    t.report = s.reportBand c x k.est.band new (k.est.addDeposit x w).level k₁.est.forecast s.report

/-- From `s` to `t` container `c`, whose record was `k`, comes by the record `k₁` with a deposit credit of weight `w`; with no latched setup there
is none (assumption 20). -/
structure Credited (s : State) (c w : Nat) (k k₁ : Container) (t : State) : Prop where
  container : t.container? c = some k₁
  rest : { k₁ with est := k.est, flags := k.flags } = k
  only : OnlyContainer c s t
  frame : { t with stations := s.stations, collection := s.collection, report := s.report } = s
  others : ∀ d, d ≠ c → t.entry? d = s.entry? d
  unchanged : k₁.est.band = k.est.band → k₁.flags = k.flags ∧ t.collection = s.collection ∧ t.report = s.report
  latched : ∀ x, k.latched = some x → CreditEffect s c w x k k₁ t
  unlatched : k.latched = none → k₁.est = k.est

theorem Credited.ops {s t : State} {c w : Nat} {k k₁ : Container} (h : Credited s c w k k₁ t) : t.ops = s.ops := (congrArg State.ops h.frame :)
theorem Credited.actions {s t : State} {c w : Nat} {k k₁ : Container} (h : Credited s c w k k₁ t) : t.actions = s.actions :=
  (congrArg State.actions h.frame :)
theorem Credited.tuning {s t : State} {c w : Nat} {k k₁ : Container} (h : Credited s c w k k₁ t) : t.tuning = s.tuning :=
  (congrArg State.tuning h.frame :)
theorem Credited.directory {s t : State} {c w : Nat} {k k₁ : Container} (h : Credited s c w k k₁ t) : t.directory = s.directory :=
  (congrArg State.directory h.frame :)

/-- A deposit credit in these terms. -/
theorem exists_credited {s : State} {c : Nat} {k : Container} (hk : s.container? c = some k) (w : Nat) :
    ∃ k₁, Credited s c w k k₁ (s.credit c w) := by
  unfold State.credit
  rw [hk]
  dsimp only
  rcases hx : k.latched with _ | x
  · exact ⟨k, hk, rfl, .refl c s, rfl, fun _ _ => rfl, fun _ => ⟨rfl, rfl, rfl⟩, fun x h => (nomatch hx.symm.trans h), fun _ => rfl⟩
  · have hadded : (s.updEst c (Estimator.addDeposit x w)).container? c = some { k with est := k.est.addDeposit x w } :=
      container?_updContainer_self hk _
    obtain ⟨hcontainer, honly, hframe, hflags, hentry, hothers, hreport, hunchanged⟩ := rebanded_evaluateCredit hadded x
    refine ⟨_, container?_updContainer_self hcontainer _, rfl,
      ((onlyContainer_updContainer s c _).trans honly).trans (onlyContainer_updContainer _ c _),
      congrArg (fun v : State => { v with stations := s.stations }) hframe, hothers, hunchanged, fun y hy => ?_,
      fun h => nomatch hx.symm.trans h⟩
    obtain rfl : x = y := Option.some.inj (hx.symm.trans hy)
    exact ⟨rfl, hflags, hentry, hreport⟩

end Sys2Proof.Machine.HatchControl
end

section
namespace Sys2Proof.Machine.HatchControl

open FillEstimation CardDirectory

/-! ### The deposit of an OPEN hatch completes (R103) -/

/-- The directory's part of a deposit: the card of an admission is charged (R72, R103). -/
def charge (h : HatchRecord) (s : State) : State :=
  match h.admission with
  | some a => s.commit a
  | none => s

theorem charge_eq (h : HatchRecord) (s : State) : charge h s = { s with directory := (charge h s).directory } := by
  unfold charge
  split <;> rfl

theorem charge_directory (h : HatchRecord) (s : State) :
    (charge h s).directory =
      match h.admission with
      | some a => (s.updCard a.card (Card.commit (s.clock.day / s.directory.periodLength) a.weight a.charged)).directory
      | none => s.directory := by
  unfold charge
  split <;> rfl

/-- The weight of a deposit: the admission's, or 1. -/
def depositWeight (h : HatchRecord) : Nat := (h.admission.map Admission.weight).getD 1

/-- What the hatch record `h` becomes at the close of its hatch, as a change of the record. -/
def closing (h : HatchRecord) : HatchRecord → HatchRecord :=
  match h.admission, h.closeAction with
  | some _, _ => fun r => { r with state := .locked, admission := none, deposit := none }
  | none, .returnToReleased => fun r => { r with state := .released, deposit := none }
  | none, .lock => fun r => { r with state := .locked, deposit := none, closeAction := .lock }

theorem closing_self (h : HatchRecord) :
    closing h h =
      match h.admission, h.closeAction with
      | some _, _ => { h with state := .locked, admission := none, deposit := none }
      | none, .returnToReleased => { h with state := .released, deposit := none }
      | none, .lock => { h with state := .locked, deposit := none } := by
  obtain ⟨state, force, admission, window, deposit, closeAction⟩ := h
  rcases admission with _ | a
  · cases closeAction <;> rfl
  · rfl

theorem closing_state (h r : HatchRecord) :
    (closing h r).state = if h.admission = none ∧ h.closeAction = .returnToReleased then .released else .locked := by
  unfold closing
  rcases h.admission with _ | a
  · cases h.closeAction <;> rfl
  · rfl

/-- A deposit is charged, credited, and then the hatch closes, its lock at ENGAGE unless it returns to RELEASED (R103). -/
theorem completeDeposit_eq (s : State) (c : Nat) (h : HatchRecord) :
    s.completeDeposit c h =
      if h.admission = none ∧ h.closeAction = .returnToReleased then ((charge h s).credit c (depositWeight h)).changeHatch c (closing h)
      else (((charge h s).credit c (depositWeight h)).setLock c .engage).changeHatch c (closing h) := by
  unfold State.completeDeposit charge depositWeight closing
  rcases h.admission with _ | a
  · cases h.closeAction <;> rfl
  · rfl

/-- The close of an OPEN hatch, over the state `u` in which the deposit has been credited. -/
theorem moved_closing {u : State} {c : Nat} {k : Container} (hk : u.container? c = some k) (hopen : k.hatch.state = .opened) {goes : Bool}
    (hgoes : goes = decide (u.phaseOf c = some .pending ∧ ¬(k.hatch.admission = none ∧ k.hatch.closeAction = .returnToReleased) ∧
      k.contacts.hl.accepted = some true ∧ u.craneTaken c = false)) :
    HatchMoved c goes
      { k with
        hatch := closing k.hatch k.hatch
        outputs := if k.hatch.admission = none ∧ k.hatch.closeAction = .returnToReleased then k.outputs
          else unlatched goes { k.outputs with lock := .engage } }
      u
      (if k.hatch.admission = none ∧ k.hatch.closeAction = .returnToReleased then u.changeHatch c (closing k.hatch)
      else (u.setLock c .engage).changeHatch c (closing k.hatch)) := by
  have hstate := closing_state k.hatch k.hatch
  split
  · next hreturns =>
    rw [if_pos hreturns] at hstate
    obtain rfl : goes = false := hgoes.trans (decide_eq_false fun h => h.2.1 hreturns)
    exact moved_changeHatch_still hk (closing k.hatch) (.inr (.inl (by rw [hstate]; decide)))
  · next hlocks =>
    rw [if_neg hlocks] at hstate
    have hlock := moved_changeImage hk fun o => { o with lock := .engage }
    have hengaged : (u.setLock c .engage).container? c = some { k with outputs := { k.outputs with lock := .engage } } := by
      rw [State.setLock, State.container?_changeImage, if_pos rfl, hk]
      rfl
    refine hlock.trans (moved_changeHatch hengaged (closing k.hatch) (hgoes.trans (decide_eq_decide.2 ?_)))
    exact ⟨fun h => ⟨by simp [hopen], hstate, h.1, h.2.2⟩, fun h => ⟨h.2.2.1, hlocks, h.2.2.2⟩⟩

/-! ### O36: the hatch follows HC (R100 to R103) -/

section
variable {s : State} {c : Nat} {k : Container} (hk : s.container? c = some k) {acc : PerContact Acceptance}
include hk

theorem admissionContacts_notChanged (hhc : acc.hc ≠ .changed) : s.admissionContacts c acc = s := by
  unfold State.admissionContacts
  rw [hk]
  exact if_neg hhc

theorem admissionContacts_locked (hstate : k.hatch.state = .locked) : s.admissionContacts c acc = s := by
  unfold State.admissionContacts
  rw [hk]
  dsimp only
  rw [hstate]
  exact ite_self s

theorem admissionContacts_released (hstate : k.hatch.state = .released) {v : Bool} (hv : k.contacts.hc.accepted = some v) (hhc : acc.hc = .changed) :
    s.admissionContacts c acc = if v = true then s else s.openHatch c := by
  unfold State.admissionContacts
  rw [hk]
  dsimp only
  rw [hstate, hv, if_pos hhc]
  cases v <;> rfl

theorem admissionContacts_opened (hstate : k.hatch.state = .opened) {v : Bool} (hv : k.contacts.hc.accepted = some v) (hhc : acc.hc = .changed) :
    s.admissionContacts c acc = if v = true then s.completeDeposit c k.hatch else s := by
  unfold State.admissionContacts
  rw [hk]
  dsimp only
  rw [hstate, hv, if_pos hhc]
  cases v <;> rfl

theorem moved_openHatch : HatchMoved c false
    { k with hatch := { k.hatch with state := .opened, window := none, deposit := some s.tuning.depositTime } } s (s.openHatch c) :=
  moved_changeHatch_still hk (fun h => { h with state := .opened, window := none, deposit := some s.tuning.depositTime })
    (.inr (.inl (by simp)))

/-- A completed deposit: the credit, then the hatch's move over the state in which it has been credited. -/
theorem exists_completeDeposit (hopen : k.hatch.state = .opened) {goes : Bool}
    (hgoes : goes = decide (s.phaseOf c = some .pending ∧ ¬(k.hatch.admission = none ∧ k.hatch.closeAction = .returnToReleased) ∧
      k.contacts.hl.accepted = some true ∧ s.craneTaken c = false)) :
    ∃ (k₁ : Container) (u : State), Credited (charge k.hatch s) c (depositWeight k.hatch) k k₁ u ∧
      HatchMoved c goes
        { k₁ with
          hatch := closing k.hatch k.hatch
          outputs := if k.hatch.admission = none ∧ k.hatch.closeAction = .returnToReleased then k.outputs
            else unlatched goes { k.outputs with lock := .engage } }
        u (s.completeDeposit c k.hatch) := by
  have hcharged : (charge k.hatch s).container? c = some k := by rw [charge_eq]; exact hk
  obtain ⟨k₁, hcredited⟩ := exists_credited hcharged (depositWeight k.hatch)
  refine ⟨k₁, _, hcredited, ?_⟩
  have hops : ((charge k.hatch s).credit c (depositWeight k.hatch)).ops = s.ops := by
    rw [hcredited.ops, charge_eq]
  have hphase := phaseOf_congr hops c
  have hcrane := craneTaken_congr hops c
  have hhatch : k₁.hatch = k.hatch := (congrArg Container.hatch hcredited.rest :)
  have houtputs : k₁.outputs = k.outputs := (congrArg Container.outputs hcredited.rest :)
  have hcontacts : k₁.contacts = k.contacts := (congrArg Container.contacts hcredited.rest :)
  have hmoved := moved_closing hcredited.container (hhatch ▸ hopen) (goes := goes) (by rw [hhatch, hcontacts, hphase, hcrane]; exact hgoes)
  rw [hhatch, houtputs] at hmoved
  rw [completeDeposit_eq]
  exact hmoved

end

/-- What the state `t` after a completed deposit shows of its credit, the record of container `c` having been `k` and being `k'` (R42, R55, R57);
the postings stand alone while no bound action is in flight. -/
structure CreditShown (s : State) (c w : Nat) (k k' : Container) (t : State) : Prop where
  latched : ∀ x, k.latched = some x →
    k'.est = deposited x w s.tuning.postDeposit k.est ∧
    ∀ new, k'.est.band = some new →
      k'.flags = k.flags.passed (x.reported k.est.band new) ∧
      t.entry? c = (bandListing k.est.band new (s.freshEntry c k'.est.forecast) (s.entry? c)).1 ∧
      (∀ d, d ≠ c → t.entry? d = s.entry? d) ∧
      (s.actions = [] → t.report = s.reportBand c x k.est.band new (k.est.addDeposit x w).level k'.est.forecast s.report)
  unchanged : k'.est.band = k.est.band → k'.flags = k.flags ∧ t.collection = s.collection ∧ (s.actions = [] → t.report = s.report)
  unlatched : k.latched = none → k'.est = k.est

/-- The hatch's move touches nothing of the credit. -/
theorem Credited.shown {s u t : State} {d : Directory} {c w : Nat} {goes : Bool} {k k₁ k₂ k' : Container}
    (h : Credited { s with directory := d } c w k k₁ u) (hmoved : HatchMoved c goes k₂ u t) (hest : k'.est = k₁.est)
    (hflags : k'.flags = k₁.flags) :
    CreditShown s c w k k' t := by
  have hentry : ∀ n, t.entry? n = u.entry? n := State.entry?_congr hmoved.collection
  have hreport : s.actions = [] → t.report = u.report := fun hidle => (hmoved.idle (h.actions.trans hidle)).2
  refine ⟨fun x hx => ?_, fun hband => ?_, fun hx => hest.trans (h.unlatched hx)⟩
  · obtain ⟨hrecord, hpassed, hlisted, hposted⟩ := h.latched x hx
    rw [hest, hflags]
    exact ⟨hrecord, fun new hnew => ⟨hpassed new hnew, (hentry c).trans (hlisted new hnew), fun n hn => (hentry n).trans (h.others n hn),
      fun hidle => (hreport hidle).trans (hposted new hnew)⟩⟩
  · obtain ⟨hsameFlags, hcollection, hsameReport⟩ := h.unchanged (by rw [← hest]; exact hband)
    exact ⟨hflags.trans hsameFlags, hmoved.collection.trans hcollection, fun hidle => (hreport hidle).trans hsameReport⟩

/-- What a completed deposit leaves of the state. -/
theorem Credited.moved_frame {s u t : State} {d : Directory} {c w : Nat} {goes : Bool} {k k₁ k₂ : Container}
    (h : Credited { s with directory := d } c w k k₁ u) (hmoved : HatchMoved c goes k₂ u t) :
    t.ops = s.ops.map (Option.map (departed goes c s.tuning.liftWait)) ∧ t.directory = d ∧ OnlyContainer c s t ∧
      { t with
        stations := s.stations, directory := s.directory, collection := s.collection, ops := s.ops, actions := s.actions,
        report := s.report } = s := by
  have honly : OnlyContainer c s u := h.only
  have hframe := congrArg (fun v : State => { v with
    stations := s.stations, directory := s.directory, collection := s.collection, ops := s.ops, actions := s.actions, report := s.report })
    hmoved.frame
  refine ⟨?_, hmoved.directory.trans h.directory, honly.trans hmoved.only, hframe.trans ?_⟩
  · rw [hmoved.ops, h.ops, h.tuning]
  · exact congrArg (fun v : State => { v with directory := s.directory, ops := s.ops, actions := s.actions }) h.frame

/-- Settles O36: HC alone moves the hatch, and a deposit that completes is a credit and a hatch change with its exit test. -/
theorem hatchFollowsContact : Obligations.HatchFollowsContact := by
  unfold Obligations.HatchFollowsContact
  intro s c k acc hk
  refine ⟨admissionContacts_notChanged hk, fun hhc => ⟨admissionContacts_locked hk, fun hstate hv => ?_, fun hstate hv => ?_, fun hstate hv => ?_,
    fun hstate hv goes hgoes => ?_⟩⟩
  · rw [admissionContacts_released hk hstate hv hhc, if_pos rfl]
  · rw [admissionContacts_opened hk hstate hv hhc, if_neg (by decide)]
  · rw [admissionContacts_released hk hstate hv hhc, if_neg (by decide)]
    have hmoved := moved_openHatch hk
    obtain ⟨k', hcontainer, hsame⟩ := hmoved.container
    exact ⟨k', hcontainer, hsame, hmoved.onlyHatch⟩
  · rw [admissionContacts_opened hk hstate hv hhc, if_pos rfl]
    obtain ⟨k₁, u, hcredited, hmoved⟩ := exists_completeDeposit hk hstate hgoes
    obtain ⟨k', hcontainer, hsame⟩ := hmoved.container
    have hcharged := charge_directory k.hatch s
    rw [charge_eq] at hcredited
    have hshown := hcredited.shown hmoved hsame.est hsame.flags
    obtain ⟨hops, hdirectory, honly, hframe⟩ := hcredited.moved_frame hmoved
    refine ⟨k', hcontainer, ?_, hsame.hatch.trans (closing_self k.hatch), hsame.outputs, fun x hx => ?_,
      fun x credit credited level band hx hcredit hcreditedLevel hlevel hband => ?_,
      fun hx => ⟨hshown.unlatched hx, hshown.unchanged (congrArg Estimator.band (hshown.unlatched hx))⟩, ?_, hops, hframe,
      hdirectory.trans hcharged, honly⟩
    · rw [hmoved.opOf, State.opOf_congr hcredited.ops, hcredited.tuning]
      rfl
    · rw [(hshown.latched x hx).1, deposited_eq rfl rfl rfl rfl]
      exact ⟨rfl, rfl, rfl, rfl⟩
    · obtain ⟨hrecord, hchanged⟩ := hshown.latched x hx
      have hlevelNow : (k.est.addDeposit x (depositWeight k.hatch)).level = level := by subst hlevel hcreditedLevel hcredit; rfl
      rw [hlevelNow] at hchanged
      have hfields := hrecord.trans (deposited_eq hcredit hcreditedLevel hlevel hband)
      have hbandNow : k'.est.band = band := congrArg Estimator.band hfields
      rw [← hbandNow] at hfields ⊢
      exact ⟨hfields, hshown.unchanged, hchanged⟩
    · have hrest := Unsettling.sameButSettle
        (f := fun y => { y with hatch := k.hatch, outputs := k.outputs, est := k.est, flags := k.flags }) (fun _ _ _ => rfl) hsame
      have hbefore := congrArg (fun y : Container => { y with hatch := k.hatch, outputs := k.outputs }) hcredited.rest
      exact (congrArg (SameButSettle _) hbefore).mp hrest

end Sys2Proof.Machine.HatchControl
end

section
namespace Sys2Proof.Machine.CollectionRounds

open FillEstimation CardDirectory

/-! ### Requests taken in OPERATE and SUPERVISE -/

section
variable {s : State} {p : Port} (hp : Ready s p) (hmode : s.mode ≠ .configure)
include hp hmode

/-- A request of a kind taken outside CONFIGURE, on both ports, reaches its owner. -/
theorem takeRequest_serviceModes {kind : Byte} {ps : List Byte} {fits : List Byte → Bool} (hr : requestRule kind = some (serviceModes fits))
    (hfits : fits ps = true) (owner : State → State) (hk : kind ≠ 7 := by decide) :
    s.takeRequest p kind (request kind ps) owner = owner (s.taken p) :=
  takeRequest_ready owner hp hr hfits (by cases p <;> rfl) (serviceModes_inMode hmode fits) hk

/-- One that names a container in use reaches it with that container. -/
theorem takeRequest_serviceContainer {c : Nat} {k : Container} (hc : c < 64) (hk : s.container? c = some k) {kind : Byte}
    (hr : requestRule kind = some (serviceModes (exactly 1))) (owner : Nat → Container → State → State) (hkind : kind ≠ 7 := by decide) :
    s.takeRequest p kind (request kind [byteOf c]) (fun t => t.onContainer p kind [byteOf c] owner) = owner c k (s.taken p) := by
  have hbyte : byteAt [byteOf c] 0 = c := byteAt_byteOf (by omega) []
  rw [takeRequest_serviceModes hp hmode hr rfl _ hkind,
    onContainer_inUse (k := k) _ (by rw [hbyte]; exact hc) (by rw [hbyte, taken_container?]; exact hk), hbyte]

end

/-! ### O37: the three ways of an insertion request (R115, R120) and a removal by the host (R121) -/

section
variable {s : State} {c : Nat}

theorem insertionRequest_inserts (he : s.entry? c = none) (x : Reason) (h : Nat) :
    s.insertionRequest c x h =
      (s.place { s.freshEntry c h with reason := x }).postListEntry { s.freshEntry c h with reason := x } none := by
  unfold State.insertionRequest
  rw [he]
  rfl

theorem insertionRequest_raises {e : Entry} (he : s.entry? c = some e) {x : Reason} (hx : x.code < e.reason.code) (h : Nat) :
    s.insertionRequest c x h =
      (s.place { e with reason := x, forecast := h }).postListEntry { e with reason := x, forecast := h } (some e.reason) := by
  unfold State.insertionRequest
  rw [he]
  exact if_pos hx

theorem insertionRequest_leaves {e : Entry} (he : s.entry? c = some e) {x : Reason} (hx : ¬x.code < e.reason.code) (h : Nat) :
    s.insertionRequest c x h = s.place { e with forecast := h } := by
  unfold State.insertionRequest
  rw [he]
  exact if_neg hx

/-- What the reply of LIST_ADD says the request did (R120). -/
theorem insertionEffect_inserts (he : s.entry? c = none) (x : Reason) : s.insertionEffect c x = .entryInserted := by
  unfold State.insertionEffect
  rw [he]

theorem insertionEffect_raises {e : Entry} (he : s.entry? c = some e) {x : Reason} (hx : x.code < e.reason.code) :
    s.insertionEffect c x = .entryRaised := by
  unfold State.insertionEffect
  rw [he]
  exact if_pos hx

theorem insertionEffect_leaves {e : Entry} (he : s.entry? c = some e) {x : Reason} (hx : ¬x.code < e.reason.code) :
    s.insertionEffect c x = .entryLeft := by
  unfold State.insertionEffect
  rw [he]
  exact if_neg hx

theorem listAddData_of_entry? {e : Entry} (he : s.entry? c = some e) (effect : ReplyCode) :
    s.listAddData c effect = [byteOf e.reason.code, yesNo e.claimed, Config.replyCode effect] := by
  unfold State.listAddData
  rw [he]

/-- The entry of a container is the one last put in its place. -/
theorem entry?_placed (s : State) (e : Entry) : (s.place e).entry? e.container = some e := by
  rw [State.entry?_place, if_pos rfl]

theorem entry?_postListEntry (s : State) (e : Entry) (r : Option Reason) (c : Nat) : (s.postListEntry e r).entry? c = s.entry? c := rfl

/-- LIST_ENTRY for an entry put in its place gives the level of the container (R123). -/
theorem postListEntry_placed {e : Entry} {k : Container} (hk : s.container? e.container = some k) (r : Option Reason) :
    (s.place e).postListEntry e r =
      (s.place e).postAt .listEntry e.container (.listEntry e.reason r e.claimed e.forecast k.est.level) := by
  have hlevel : (s.place e).levelOf e.container = k.est.level := by
    unfold State.levelOf
    rw [State.container?_congr (State.place_stations s e), hk]
    rfl
  unfold State.postListEntry
  rw [hlevel]

/-- The reason FORECAST alone is less urgent than HOST. -/
theorem host_lt_iff (r : Reason) : Reason.host.code < r.code ↔ r = .forecast := by cases r <;> decide

variable {p : Port} {k : Container} (hp : Ready s p) (hc : c < 64) (hk : s.container? c = some k)
include hp hc hk

theorem exec_listAdd (hmode : s.mode ≠ .configure) : exec (.listAdd p (request 30 [byteOf c])) s =
    .next (((s.taken p).insertionRequest c .host k.est.forecast).reply p 30 .ok
      (((s.taken p).insertionRequest c .host k.est.forecast).listAddData c ((s.taken p).insertionEffect c .host))) := by
  rw [← forecastOf_eq ((taken_container? s p c).trans hk)]
  exact congrArg Host.Outcome.next (takeRequest_serviceContainer hp hmode hc hk rfl _)

theorem exec_listRemove (hmode : s.mode = .supervise) : exec (.listRemove p (request 31 [byteOf c])) s =
    .next (match s.entry? c with
      | none => s.answer p 31 .notFound []
      | some e => if e.claimed then s.answer p 31 .held [] else ((s.taken p).unlist c).reply p 31 .ok []) := by
  rw [← taken_entry? s p c]
  exact congrArg Host.Outcome.next (HatchControl.takeRequest_superviseContainer hp hmode hc hk rfl _)

/-- LIST_ADD for a container with no entry: the insertion is posted (R115). -/
theorem listAdd_inserts (hmode : s.mode ≠ .configure) (he : s.entry? c = none) :
    exec (.listAdd p (request 30 [byteOf c])) s =
      .next ((((s.taken p).place { s.freshEntry c k.est.forecast with reason := .host }).postAt .listEntry c
        (.listEntry .host none false k.est.forecast k.est.level)).reply p 30 .ok [5, 0, Config.replyCode .entryInserted]) := by
  have he' : (s.taken p).entry? c = none := (taken_entry? s p c).trans he
  have hfresh : (s.taken p).freshEntry c k.est.forecast = s.freshEntry c k.est.forecast := by
    unfold State.freshEntry
    rw [taken_clock]
  rw [exec_listAdd hp hc hk hmode, insertionEffect_inserts he', insertionRequest_inserts he', hfresh,
    listAddData_of_entry? ((entry?_postListEntry _ _ _ c).trans (entry?_placed _ { s.freshEntry c k.est.forecast with reason := .host })),
    postListEntry_placed (e := { s.freshEntry c k.est.forecast with reason := .host }) ((taken_container? s p c).trans hk)]
  rfl

/-- LIST_ADD for an entry of a less urgent reason: the raise is posted (R115). -/
theorem listAdd_raises (hmode : s.mode ≠ .configure) {e : Entry} (he : s.entry? c = some e) (hreason : e.reason = .forecast) :
    exec (.listAdd p (request 30 [byteOf c])) s =
      .next ((((s.taken p).place { e with reason := .host, forecast := k.est.forecast }).postAt .listEntry c
        (.listEntry .host (some .forecast) e.claimed k.est.forecast k.est.level)).reply p 30 .ok
          [5, yesNo e.claimed, Config.replyCode .entryRaised]) := by
  have he' : (s.taken p).entry? c = some e := (taken_entry? s p c).trans he
  have hx := (host_lt_iff e.reason).2 hreason
  obtain rfl : e.container = c := entry?_container he
  rw [exec_listAdd hp hc hk hmode, insertionEffect_raises he' hx, insertionRequest_raises he' hx, hreason,
    listAddData_of_entry? ((entry?_postListEntry _ _ _ _).trans (entry?_placed _ { e with reason := .host, forecast := k.est.forecast })),
    postListEntry_placed (e := { e with reason := .host, forecast := k.est.forecast }) ((taken_container? s p _).trans hk)]
  rfl

/-- LIST_ADD for any other entry: its forecast follows and nothing is posted (R115). -/
theorem listAdd_leaves (hmode : s.mode ≠ .configure) {e : Entry} (he : s.entry? c = some e) (hreason : e.reason ≠ .forecast) :
    exec (.listAdd p (request 30 [byteOf c])) s =
      .next (((s.taken p).place { e with forecast := k.est.forecast }).reply p 30 .ok
        [byteOf e.reason.code, yesNo e.claimed, Config.replyCode .entryLeft]) := by
  have he' : (s.taken p).entry? c = some e := (taken_entry? s p c).trans he
  have hx := fun h => hreason ((host_lt_iff e.reason).1 h)
  obtain rfl : e.container = c := entry?_container he
  rw [exec_listAdd hp hc hk hmode, insertionEffect_leaves he' hx, insertionRequest_leaves he' hx,
    listAddData_of_entry? (entry?_placed _ { e with forecast := k.est.forecast })]

end

/-- Settles O37, from the three ways of an insertion request and the owner's part of LIST_REMOVE. -/
theorem listRequests : Obligations.ListRequests := by
  unfold Obligations.ListRequests
  intro s p c k hp hc hk
  refine ⟨fun hmode => ⟨listAdd_inserts hp hc hk hmode, fun e he => ⟨listAdd_raises hp hc hk hmode he, listAdd_leaves hp hc hk hmode he⟩⟩,
    fun hmode => ?_⟩
  rw [exec_listRemove hp hc hk hmode]
  refine ⟨fun he => by rw [he], fun e he => ?_⟩
  rw [he]
  refine ⟨fun hclaimed => congrArg Host.Outcome.next (if_pos hclaimed), fun hlisted => ?_⟩
  rw [← taken_collection s p]
  exact congrArg Host.Outcome.next (if_neg (by simp [hlisted]))

end Sys2Proof.Machine.CollectionRounds
end

section
namespace Sys2Proof.Machine.CollectionRounds

open FillEstimation CardDirectory

/-! ### O38: sets of stations and the tests of ROUND_OPEN (R125) -/

/-- The bytes of a ROUND_OPEN request: capacity, selector, explicit set. -/
theorem roundOpen_fields {k selector set : Nat} (hk : k < 256) (hselector : selector < 256) (hset : set < 65536) :
    byteAt ([byteOf k, byteOf selector] ++ bytesOf 2 set) 0 = k ∧ byteAt ([byteOf k, byteOf selector] ++ bytesOf 2 set) 1 = selector ∧
      field ([byteOf k, byteOf selector] ++ bytesOf 2 set) 2 2 = set :=
  ⟨byteAt_byteOf hk _, byteAt_byteOf hselector _, numberOf_bytesOf (k := 2) (by omega)⟩

/-- An explicit set has the bits of its number. -/
theorem getLsbD_explicit (set u : Nat) : (BitVec.ofNat 16 set).getLsbD u = (decide (u < 16) && set.testBit u) := by
  rw [BitVec.getLsbD_ofNat]

/-- A set number of two bytes has no member above 15. -/
theorem lt_of_member {set u : Nat} (hset : set < 65536) (hu : set.testBit u = true) : u < 16 := by
  by_contra h
  have hpow : 65536 ≤ 2 ^ u := Nat.pow_le_pow_right (n := 2) (by decide) (Nat.le_of_not_lt h)
  rw [Nat.testBit_lt_two_pow (by omega)] at hu
  cases hu

theorem explicit_eq_zero_iff {set : Nat} (hset : set < 65536) : BitVec.ofNat 16 set = 0 ↔ set = 0 := by
  rw [← BitVec.toNat_inj, BitVec.toNat_ofNat, Nat.mod_eq_of_lt (by omega)]
  rfl

section
variable {s : State}

theorem getLsbD_definedSet (s : State) {u : Nat} (hu : u < 16) : s.definedSet.getLsbD u = (s.station? u).isSome := by
  unfold State.definedSet
  rw [getLsbD_explicit, testBit_ofBits, List.getElem?_map, List.getElem?_range hu]
  simp [hu]

theorem namesUndefined_explicit {set : Nat} (hset : set < 65536) :
    s.namesUndefined (BitVec.ofNat 16 set) = true ↔ ∃ u, set.testBit u = true ∧ s.station? u = none := by
  unfold State.namesUndefined
  rw [List.any_eq_true]
  constructor
  · rintro ⟨u, _, hu⟩
    simp only [getLsbD_explicit, Bool.and_eq_true, Option.isNone_iff_eq_none] at hu
    exact ⟨u, hu.1.2, hu.2⟩
  · rintro ⟨u, hu, hnone⟩
    have hlt := lt_of_member hset hu
    exact ⟨u, List.mem_range.2 hlt, by simp [getLsbD_explicit, hlt, hu, hnone]⟩

/-- The set that ROUND_OPEN takes: the explicit one, or that of every defined station. -/
theorem roundStations_eq {selector set : Nat} {stations : StationSet}
    (h : ∀ u, u < 16 → stations.getLsbD u = if selector = 0 then set.testBit u else (s.station? u).isSome) :
    (if selector = 0 then BitVec.ofNat 16 set else s.definedSet) = stations := by
  refine BitVec.eq_of_getLsbD_eq fun u hu => ?_
  rw [h u hu]
  split
  · rw [getLsbD_explicit, decide_eq_true hu, Bool.true_and]
  · exact getLsbD_definedSet s hu

@[simp] theorem taken_namesUndefined (s : State) (p : Port) (x : StationSet) : (s.taken p).namesUndefined x = s.namesUndefined x := by
  cases p <;> rfl

@[simp] theorem taken_definedSet (s : State) (p : Port) : (s.taken p).definedSet = s.definedSet := by cases p <;> rfl

@[simp] theorem taken_manifestEntry (s : State) (p : Port) : (s.taken p).manifestEntry = s.manifestEntry := by cases p <;> rfl

variable {p : Port} {k selector set : Nat}

theorem exec_roundOpen (hp : Ready s p) (hmode : s.mode ≠ .configure) (hk : k < 256) (hselector : selector < 256) (hset : set < 65536) :
    exec (.roundOpen p (request 32 ([byteOf k, byteOf selector] ++ bytesOf 2 set))) s = .next ((s.taken p).roundOpen p k selector set) := by
  obtain ⟨hcapacity, hsel, hexplicit⟩ := roundOpen_fields hk hselector hset
  refine congrArg Host.Outcome.next ((takeRequest_serviceModes hp hmode rfl rfl _).trans ?_)
  rw [request_params, hcapacity, hsel, hexplicit]

/-! The tests of R125 in their order; each takes what the ones before let pass. -/

theorem roundOpen_range (hset : set < 65536) (h : k = 0 ∨ 64 < k ∨ 1 < selector ∨ (selector = 0 ∧ set = 0)) :
    s.roundOpen p k selector set = s.reply p 32 .range [] := by
  unfold State.roundOpen
  by_cases hbounds : k = 0 ∨ 64 < k ∨ 1 < selector
  · exact if_pos hbounds
  · have hempty : selector = 0 ∧ BitVec.ofNat 16 set = 0 := by
      rw [explicit_eq_zero_iff hset]
      tauto
    exact (if_neg hbounds).trans (if_pos hempty)

variable (hlow : 1 ≤ k) (hhigh : k ≤ 64)
include hlow hhigh

theorem roundOpen_notFound (hset : set < 65536) (hselector : selector = 0) (hsome : set ≠ 0)
    (h : ∃ u, set.testBit u = true ∧ s.station? u = none) : s.roundOpen p k selector set = s.reply p 32 .notFound [] := by
  unfold State.roundOpen
  dsimp only
  have hnonempty : ¬(selector = 0 ∧ BitVec.ofNat 16 set = 0) := fun h => hsome ((explicit_eq_zero_iff hset).1 h.2)
  rw [if_neg (by omega), if_neg hnonempty, if_pos ⟨hselector, (namesUndefined_explicit hset).2 h⟩]

variable (hmembers : selector = 1 ∨ (selector = 0 ∧ set ≠ 0 ∧ ∀ u, set.testBit u = true → (s.station? u).isSome = true))
include hmembers

/-- A capacity and a set that the tests let pass meet the open round. -/
theorem roundOpen_passed (hset : set < 65536) : s.roundOpen p k selector set =
    if s.round.isSome then s.reply p 32 .busy []
    else (s.openRound (if selector = 0 then BitVec.ofNat 16 set else s.definedSet) k).reply p 32 .ok
      (s.manifest (s.claimable (if selector = 0 then BitVec.ofNat 16 set else s.definedSet) k)) := by
  have hsome : ¬(selector = 0 ∧ BitVec.ofNat 16 set = 0) := by
    rw [explicit_eq_zero_iff hset]
    rintro ⟨rfl, hempty⟩
    rcases hmembers with h | ⟨_, h, _⟩
    · cases h
    · exact h hempty
  have hdefined : ¬(selector = 0 ∧ s.namesUndefined (BitVec.ofNat 16 set) = true) := by
    rw [namesUndefined_explicit hset]
    rintro ⟨rfl, u, hu, hnone⟩
    rcases hmembers with h | ⟨_, _, h⟩
    · cases h
    · simpa [hnone] using h u hu
  unfold State.roundOpen
  dsimp only
  rw [if_neg (by omega), if_neg hsome, if_neg hdefined]

end

/-- Settles O38, from the tests of `roundOpen` and the set that it takes. -/
theorem roundOpened : Obligations.RoundOpened := by
  unfold Obligations.RoundOpened
  intro s p k selector set hp hmode hk hselector hset
  rw [exec_roundOpen hp hmode hk hselector hset]
  refine ⟨fun h => ?_, fun hlow hhigh hzero hsome h => ?_, fun hlow hhigh hmembers => ?_⟩
  · rw [roundOpen_range hset h]
    rfl
  · rw [roundOpen_notFound hlow hhigh hset hzero hsome (by simpa using h)]
    rfl
  · rw [roundOpen_passed hlow hhigh (by simpa using hmembers) hset, taken_round]
    refine ⟨fun hopen => congrArg Host.Outcome.next (if_pos hopen), fun hclosed stations es hstations hes => ?_⟩
    have hclaimed : (s.taken p).claimable stations k = es := by
      rw [hes, State.claimable, taken_collection]
    rw [hclosed, if_neg (by decide), taken_definedSet, roundStations_eq hstations, State.openRound, hclaimed, State.manifest, taken_manifestEntry,
      taken_collection]
    rfl

end Sys2Proof.Machine.CollectionRounds
end

section
namespace Sys2Proof.Machine.CollectionRounds

open FillEstimation CardDirectory HatchControl

/-! ### Slots freed one after another (R129) -/

/-- An operation once the slot of one with start order `n` has been freed. -/
def lowered (n : Nat) (op : Operation) : Operation := if n < op.order then { op with order := op.order - 1 } else op

@[simp] theorem lowered_container (n : Nat) (op : Operation) : (lowered n op).container = op.container := by
  unfold lowered
  split <;> rfl

theorem operations_freeOperation (s : State) (c n : Nat) :
    (s.freeOperation c n).operations = (s.operations.filter fun op => op.container != c).map (lowered n) := by
  unfold State.operations State.freeOperation
  dsimp only
  induction s.ops with
  | nil => rfl
  | cons o os ih =>
    cases o with
    | none => exact ih
    | some op =>
      by_cases h : op.container = c
      · simpa [h] using ih
      · simpa [h, lowered] using ih

/-- With one operation to a container, freeing the first slot taken leaves the others. -/
theorem operations_freeOperation_head {s : State} {op : Operation} {ops : List Operation} (h : s.operations = op :: ops)
    (hdistinct : ∀ x ∈ ops, op.container ≠ x.container) (n : Nat) :
    (s.freeOperation op.container n).operations = ops.map (lowered n) := by
  have hothers : ops.filter (fun x => x.container != op.container) = ops :=
    List.filter_eq_self.2 fun x hx => by simpa using Ne.symm (hdistinct x hx)
  rw [operations_freeOperation, h, List.filter_cons_of_neg (by simp), hothers]

/-! ### Containers whose operation has ended (R144, R147) -/

/-- The container of an ended operation: its verification interest released and its latch at ENGAGE. -/
def relatched (k : Container) : Container := { k.untagged with outputs := { k.outputs with latch := .engage } }

theorem relatched_relatched (k : Container) : relatched (relatched k) = relatched k := by
  simp [relatched, Container.untagged, Option.map_map, Function.comp_def]

theorem unsettling_relatched : Unsettling relatched := fun _ _ _ => rfl

/-- From `s` to `t` these containers come to be as their ended operations leave them, and but for settle states, station status, output revision, the
operations, the round and the report queue nothing else changes. -/
structure Relatched (cs : List Nat) (s t : State) : Prop where
  container : ∀ c k, s.container? c = some k → ∃ k' : Container, t.container? c = some k' ∧ SameButSettle k' (if c ∈ cs then relatched k else k)
  absent : ∀ c, s.container? c = none → t.container? c = none
  still : ∀ u, (t.station? u).map Station.still = (s.station? u).map Station.still
  frame : { t with stations := s.stations, ops := s.ops, round := s.round, report := s.report } = s

namespace Relatched

variable {s t u : State} {cs ds : List Nat}

theorem refl (s : State) : Relatched [] s s := ⟨fun _ k hk => ⟨k, hk, rfl⟩, fun _ h => h, fun _ => rfl, rfl⟩

theorem trans (h₁ : Relatched cs s t) (h₂ : Relatched ds t u) : Relatched (cs ++ ds) s u where
  container c k hk := by
    obtain ⟨k₁, hk₁, hsame₁⟩ := h₁.container c k hk
    obtain ⟨k₂, hk₂, hsame₂⟩ := h₂.container c k₁ hk₁
    refine ⟨k₂, hk₂, ?_⟩
    by_cases hd : c ∈ ds
    · rw [if_pos hd] at hsame₂
      rw [if_pos (List.mem_append_right cs hd)]
      have hsame := (unsettling_relatched.sameButSettle hsame₁).trans hsame₂
      split at hsame
      · rwa [relatched_relatched] at hsame
      · exact hsame
    · rw [if_neg hd] at hsame₂
      simp only [List.mem_append, hd, or_false]
      exact hsame₁.trans hsame₂
  absent c h := h₂.absent c (h₁.absent c h)
  still n := (h₂.still n).trans (h₁.still n)
  frame :=
    have hframe := congrArg (fun v : State => { v with stations := s.stations, ops := s.ops, round := s.round, report := s.report }) h₂.frame
    hframe.trans h₁.frame

/-- A change of the operations, the round and the report queue alone. -/
theorem of_stations (hstations : t.stations = s.stations)
    (hframe : { t with stations := s.stations, ops := s.ops, round := s.round, report := s.report } = s) : Relatched [] s t where
  container c k hk := ⟨k, (State.container?_congr hstations c).trans hk, rfl⟩
  absent c h := (State.container?_congr hstations c).trans h
  still n := congrArg _ (State.station?_congr hstations n)
  frame := hframe

/-- The deposits held are those of before. -/
theorem deposits (h : Relatched cs s t) (c : Nat) :
    ((t.container? c).map fun k => k.est.deposits) = (s.container? c).map fun k => k.est.deposits := by
  cases hk : s.container? c with
  | none => rw [h.absent c hk]
  | some k =>
    obtain ⟨k', hk', hsame⟩ := h.container c k hk
    rw [hk']
    refine congrArg some ((congrArg Estimator.deposits hsame.est).trans ?_)
    split <;> rfl

/-- What the end of an operation posts is what it would have posted before (R146). -/
theorem reportEnded (h : Relatched cs s t) (op : Operation) (q : Report) :
    t.reportEnded .abandoned op q = s.reportEnded .abandoned op q := by
  have hpost : ∀ body, t.reportAt op.container .emptyingDone body q = s.reportAt op.container .emptyingDone body q := fun body => by
    rw [← h.frame]
    rfl
  have hbody := h.deposits op.container
  unfold State.reportEnded
  rw [hbody]
  exact hpost _

/-- The close of the round record adds the claims to what has changed (R127). -/
theorem endRound_frame (h : Relatched cs s t) :
    { t.endRound with
      stations := s.stations, collection := s.collection, round := s.round, ops := s.ops, report := s.report } = s :=
  have hframe := congrArg (fun v : State => { v with collection := s.collection }) h.frame
  hframe

end Relatched

/-- The start order is not part of what the end of an operation posts. -/
theorem reportEnded_lowered (s : State) (n : Nat) (op : Operation) (q : Report) :
    s.reportEnded .abandoned (lowered n op) q = s.reportEnded .abandoned op q := by
  unfold lowered
  split <;> rfl

/-! ### One operation ends ABANDONED (R144 to R147) -/

theorem still_of_onlyContainer {c : Nat} {s t : State} (h : OnlyContainer c s t) (u : Nat) :
    (t.station? u).map Station.still = (s.station? u).map Station.still := by
  obtain ⟨_, hothers, hown⟩ := h
  by_cases hu : u = c / 4
  · rw [hu, hown]
  · rw [hothers u hu]

theorem relatched_patternChange (s : State) (c : Nat) (old : PerContact (Option Bool)) : Relatched [] s (s.patternChange c old) := by
  obtain ⟨honly, hframe⟩ := patternChange_only s c old
  refine ⟨fun d k hk => ?_, fun d hd => ?_, still_of_onlyContainer honly,
    congrArg (fun v : State => { v with ops := s.ops, round := s.round, report := s.report }) hframe⟩
  · by_cases h : d = c
    · subst h
      exact patternChange_container? s d old k hk
    · exact ⟨k, (honly.1 d h).trans hk, rfl⟩
  · by_cases h : d = c
    · subst h
      exact patternChange_none s d old hd
    · exact (honly.1 d h).trans hd

/-- Steps 1 and 2 of an outcome: the verification interest released, the latch at ENGAGE. -/
theorem relatched_release (s : State) (c : Nat) : Relatched [c] s ((s.releaseVerification c).setLatch c .engage) := by
  have honly : OnlyContainer c s ((s.releaseVerification c).setLatch c .engage) :=
    (onlyContainer_updContainer s c _).trans (onlyContainer_changeImage _ c _)
  have hcontainer : ((s.releaseVerification c).setLatch c .engage).container? c = (s.container? c).map relatched := by
    rw [State.setLatch, State.container?_changeImage, if_pos rfl, State.releaseVerification, State.container?_updContainer, if_pos rfl,
      Option.map_map]
    rfl
  refine ⟨fun d k hk => ?_, fun d hd => ?_, still_of_onlyContainer honly, rfl⟩
  · by_cases h : d = c
    · subst h
      rw [hcontainer, hk, if_pos (List.mem_singleton_self d)]
      exact ⟨_, rfl, rfl⟩
    · rw [if_neg (by simpa using h)]
      exact ⟨k, (honly.1 d h).trans hk, rfl⟩
  · by_cases h : d = c
    · subst h
      rw [hcontainer, hd]
      rfl
    · exact (honly.1 d h).trans hd

/-- Steps 1 to 3 of an outcome ABANDONED: the container released, the outcome counted (R144). -/
def abandonedCount (op : Operation) (s : State) : State :=
  { (s.releaseVerification op.container).setLatch op.container .engage with round := s.round.map (Round.countOutcome .abandoned) }

/-- The state in which the end of operation `op` ABANDONED is posted: its slot is free too, and the monitor has its new pattern. -/
def abandonedSlot (op : Operation) (s : State) : State :=
  State.withPattern op.container (State.freeOperation op.container op.order) (abandonedCount op s)

theorem finish_abandoned_eq (s : State) (op : Operation) :
    s.finish op .abandoned = (abandonedSlot op s).postAt .emptyingDone op.container ((abandonedSlot op s).doneBody .abandoned op) := rfl

theorem relatched_abandonedSlot (s : State) (op : Operation) : Relatched [op.container] s (abandonedSlot op s) := by
  have hcounted : Relatched [op.container] s (abandonedCount op s) := (relatched_release s op.container).trans (.of_stations rfl rfl)
  have hfreed : Relatched [op.container] s ((abandonedCount op s).freeOperation op.container op.order) := hcounted.trans (.of_stations rfl rfl)
  exact hfreed.trans (relatched_patternChange _ op.container _)

theorem relatched_finish (s : State) (op : Operation) : Relatched [op.container] s (s.finish op .abandoned) :=
  (relatched_abandonedSlot s op).trans (.of_stations rfl rfl)

theorem patternChange_round (s : State) (c : Nat) (old : PerContact (Option Bool)) : (s.patternChange c old).round = s.round :=
  have hround := congrArg State.round (patternChange_only s c old).2
  hround

theorem round_finish (s : State) (op : Operation) : (s.finish op .abandoned).round = s.round.map (Round.countOutcome .abandoned) :=
  patternChange_round _ _ _

theorem operations_finish (s : State) (op : Operation) :
    (s.finish op .abandoned).operations = (s.freeOperation op.container op.order).operations := by
  have hops : (s.finish op .abandoned).ops = (s.freeOperation op.container op.order).ops := patternChange_ops _ _ _
  unfold State.operations
  rw [hops]

theorem report_finish (s : State) (op : Operation) : (s.finish op .abandoned).report = s.reportEnded .abandoned op s.report := by
  have hbefore : (abandonedSlot op s).report = s.report := patternChange_report _ _ _
  rw [← (relatched_abandonedSlot s op).reportEnded, ← hbefore]
  rfl

/-! ### Every operation ends ABANDONED (R127, R149) -/

/-- From `s` to `t` every operation of `s` has ended ABANDONED, in slot order. -/
structure AllAbandoned (s t : State) : Prop where
  relatched : Relatched (s.operations.map Operation.container) s t
  operations : t.operations = []
  round : ∀ r, s.round = some r → r.nAbandoned ≤ 65535 →
    t.round = some { r with nAbandoned := min 65535 (r.nAbandoned + s.operations.length) }
  report : t.report = s.operations.foldl (fun q op => s.reportEnded .abandoned op q) s.report

theorem AllAbandoned.refl {s : State} (h : s.operations = []) : AllAbandoned s s where
  relatched := by rw [h]; exact .refl s
  operations := h
  round r hr hle := by
    rw [hr, h, List.length_nil, Nat.add_zero, Nat.min_eq_right hle]
  report := by rw [h]; rfl

/-- The first operation ends, then every other. -/
theorem AllAbandoned.cons {s t : State} {op : Operation} {ops : List Operation} (hops : s.operations = op :: ops)
    (hrest : (s.finish op .abandoned).operations = ops.map (lowered op.order)) (h : AllAbandoned (s.finish op .abandoned) t) :
    AllAbandoned s t := by
  have hcontainers : (ops.map (lowered op.order)).map Operation.container = ops.map Operation.container := by
    rw [List.map_map]
    exact List.map_congr_left fun x _ => lowered_container op.order x
  have hfirst := relatched_finish s op
  have hrelatched := h.relatched
  have hround := h.round
  have hreport := h.report
  rw [hrest] at hrelatched hround hreport
  rw [hcontainers] at hrelatched
  rw [round_finish] at hround
  refine ⟨by rw [hops]; exact hfirst.trans hrelatched, h.operations, fun r hr hle => ?_, ?_⟩
  · rw [hr] at hround
    rw [hround _ rfl (Nat.min_le_left ..), hops, List.length_map, List.length_cons]
    have hcount : min 65535 (min 65535 (r.nAbandoned + 1) + ops.length) = min 65535 (r.nAbandoned + (ops.length + 1)) := by omega
    exact congrArg (fun n => some { r with nAbandoned := n }) hcount
  · rw [hreport, hops, List.foldl_map, List.foldl_cons, report_finish]
    simp only [reportEnded_lowered, hfirst.reportEnded]

theorem abandonAtClose_of_head {s : State} {op : Operation} {ops : List Operation} (h : s.operations = op :: ops) :
    s.abandonAtClose op.container = s.finish op .abandoned := by
  have hop : s.opOf op.container = some op := by
    have hfind : s.operations.find? (fun x => x.container == op.container) = some op := by
      rw [h]
      exact List.find?_cons_of_pos (by simp)
    exact hfind
  unfold State.abandonAtClose
  rw [hop]

theorem allAbandoned_forEach (cs : List Nat) (s : State) (hcs : s.operations.map Operation.container = cs) (hdistinct : cs.Nodup) :
    AllAbandoned s (forEach cs State.abandonAtClose s) := by
  induction cs generalizing s with
  | nil => exact .refl (List.map_eq_nil_iff.1 hcs)
  | cons c cs ih =>
    obtain ⟨op, ops, hops, rfl, rfl⟩ := List.map_eq_cons_iff.1 hcs
    obtain ⟨hnot, hdistinct⟩ := List.nodup_cons.1 hdistinct
    have hrest : (s.finish op .abandoned).operations = ops.map (lowered op.order) :=
      (operations_finish s op).trans
        (operations_freeOperation_head hops (fun x hx he => hnot (List.mem_map.2 ⟨x, hx, he.symm⟩)) op.order)
    have hlowered : (s.finish op .abandoned).operations.map Operation.container = ops.map Operation.container := by
      rw [hrest, List.map_map]
      exact List.map_congr_left fun x _ => lowered_container op.order x
    have hall := (ih _ hlowered hdistinct).cons hops hrest
    rw [← abandonAtClose_of_head hops] at hall
    exact hall

theorem allAbandoned_abandonOperations {s : State} (h : s.operations.Pairwise fun a b => a.container ≠ b.container) :
    AllAbandoned s s.abandonOperations :=
  allAbandoned_forEach _ s rfl (List.pairwise_map.2 h)

/-! ### O39: ROUND_CLOSE (R127) -/

@[simp] theorem taken_operations (s : State) (p : Port) : (s.taken p).operations = s.operations := by cases p <;> rfl

theorem anyLifted_iff (s : State) : s.anyLifted = true ↔ ∃ op ∈ s.operations, op.phase = .lifted ∨ op.phase = .returned := by
  have hany : s.anyLifted = s.operations.any fun op => op.phase == .lifted || op.phase == .returned := rfl
  rw [hany]
  simp only [List.any_eq_true, Bool.or_eq_true, beq_iff_eq]

theorem mem_containers_iff (s : State) (c : Nat) : c ∈ s.operations.map Operation.container ↔ (s.opOf c).isSome = true := by
  have hop : s.opOf c = s.operations.find? fun op => op.container == c := rfl
  rw [hop, List.find?_isSome]
  simp only [List.mem_map, beq_iff_eq]

section
variable {s : State} {p : Port}

theorem exec_roundClose (hp : Ready s p) (hmode : s.mode ≠ .configure) :
    exec (.roundClose p (request 33 [])) s = .next ((s.taken p).roundClose p) :=
  congrArg Host.Outcome.next (takeRequest_serviceModes hp hmode rfl rfl _)

theorem roundClose_noRound (h : s.round = none) : s.roundClose p = s.reply p 33 .noRound [] := by
  unfold State.roundClose
  rw [h]
  rfl

theorem roundClose_busy (hopen : s.round.isSome = true) (h : s.anyLifted = true) : s.roundClose p = s.reply p 33 .busy [] := by
  unfold State.roundClose
  rw [if_neg (by simpa [Option.isSome_iff_ne_none] using hopen), if_pos h]

/-- A close with an open round and no operation in LIFTED or RETURNED; `r` is the round record once every operation has ended. -/
theorem roundClose_closes (hopen : s.round.isSome = true) (h : s.anyLifted = false) {r : Round} (hr : s.abandonOperations.round = some r) :
    s.roundClose p = s.abandonOperations.endRound.reply p 33 .ok (r.summary (s.abandonOperations.neverStarted r.started)) := by
  unfold State.roundClose
  rw [if_neg (by simpa [Option.isSome_iff_ne_none] using hopen), if_neg (by simp [h])]
  dsimp only
  rw [hr]
  rfl

end

/-- Settles O39, from the end of every operation in slot order and the close of the round record. -/
theorem roundClosed : Obligations.RoundClosed := by
  unfold Obligations.RoundClosed
  intro s p hp hmode
  rw [exec_roundClose hp hmode]
  refine ⟨fun hnone => ?_, fun hopen hlifted => ?_, fun hok r hr hle hphases => ?_⟩
  · rw [roundClose_noRound ((taken_round s p).trans hnone)]
    rfl
  · have hany : (s.taken p).anyLifted = true := by rwa [anyLifted_iff, taken_operations]
    rw [roundClose_busy (by rwa [taken_round]) hany]
    rfl
  · obtain ⟨_, hdistinct, _⟩ := hok
    have hall : AllAbandoned (s.taken p) (s.taken p).abandonOperations := allAbandoned_abandonOperations (by rwa [taken_operations])
    have hround := hall.round r ((taken_round s p).trans hr) hle
    have hcollection : (s.taken p).abandonOperations.collection = s.collection :=
      have hkept := congrArg State.collection hall.relatched.frame
      hkept.trans (taken_collection s p)
    have hgrounded : (s.taken p).anyLifted = false := by
      rw [Bool.eq_false_iff, Ne, anyLifted_iff, taken_operations]
      rintro ⟨op, hop, hphase⟩
      rcases hphases op hop with h | h <;> simp [h] at hphase
    refine ⟨(s.taken p).abandonOperations.endRound, ?_, rfl, hall.operations, ?_, fun c k hk => ?_, fun c hc => ?_, fun u => ?_, ?_, ?_⟩
    · rw [roundClose_closes (by rw [taken_round, hr]; rfl) hgrounded hround, State.neverStarted, hcollection, taken_operations]
      rfl
    · exact congrArg (List.map fun e : Entry => { e with claimed := false }) hcollection
    · obtain ⟨k', hk', hsame⟩ := hall.relatched.container c k ((taken_container? s p c).trans hk)
      simp only [taken_operations, mem_containers_iff] at hsame
      exact ⟨k', hk', hsame⟩
    · exact hall.relatched.absent c ((taken_container? s p c).trans hc)
    · exact (hall.relatched.still u).trans (by rw [taken_station?])
    · have hreport := hall.report
      rw [taken_operations, taken_report] at hreport
      have hposts : ∀ op q, (s.taken p).reportEnded .abandoned op q = s.reportEnded .abandoned op q := fun op q => by cases p <;> rfl
      simp only [hposts] at hreport
      exact hreport
    · have hframe := hall.relatched.endRound_frame
      rwa [taken_stations, taken_collection, taken_round, taken_ops, taken_report] at hframe

end Sys2Proof.Machine.CollectionRounds
end
